-- ==== Sys2Proof/Word.lean ====
section
/-! DEFINITION. The word types of CRCN: bus words, bytes, byte strings, sector numbers (spec/00_scope.md R8 to R12). -/

namespace Sys2Proof

/-- A byte, 0 to 255 (R10). -/
abbrev Byte := BitVec 8

/-- A 64-bit bus word (R6 BUS_DATA_BITS, R52). -/
abbrev Word := BitVec 64

/-- A byte string; the head is the byte fed first, or the one at the lowest card offset (R10). -/
abbrev ByteString := List Byte

/-- A sector number, 0 to 15 (R6 N_SECTORS). -/
abbrev Sector := Fin 16

end Sys2Proof
end

