-- ==== Sys2Proof/Syntax.lean ====
section
/-! DEFINITION. The bus transaction (spec/30_encoding.md R70), the register map's names (spec/20_memory.md R51) and the
operations of CRCN: one constructor per mnemonic of spec/opcode_table.json, its operands already taken apart (R73 to R77,
R80). Rows of one mnemonic differ in the register they address, which is an operand here (log 12). -/

namespace Sys2Proof

/-- The direction of a transaction: `we` = 0, or `we` = 1 with its `wdata` (R70: `wdata` is present only when `we` = 1). -/
inductive Access where
  | read
  | write (wdata : Word)
  deriving DecidableEq, Repr

/-- One bus transaction (R70). -/
structure Transaction where
  addr : Byte
  access : Access
  deriving DecidableEq, Repr

/-- The named locations of the register window (R51). -/
inductive Register where
  | ctrl
  | poly
  | initVal
  | reg
  | data
  | cmd
  | out
  | status
  | uid
  | kvalid
  | key (s : Sector)
  deriving DecidableEq, Repr

/-- The column "host access" of R51. -/
inductive HostAccess where
  | readWrite
  | readOnly
  | writeOnly
  deriving DecidableEq, Repr

/-- `CTRL.ORDER`: 0 is big-endian output, 1 is little-endian output (R22). -/
inductive ByteOrder where
  | big
  | little
  deriving DecidableEq, Repr

/-- The operations of CRCN, in the order of the opcode table. Reserved fields are operands too: an operation with a
non-zero reserved field is still that operation, and its meaning records the error (R72, R76). -/
inductive Instr where
  /-- ERR_MISALIGNED (R185): any access at an offset that is no multiple of 8. -/
  | errMisaligned (addr : Byte) (access : Access)
  /-- ERR_UNMAPPED (R185): any access at 0x50, 0x58, 0x60, 0x68, 0x70 or 0x78. -/
  | errUnmapped (addr : Byte) (access : Access)
  /-- RD_CTRL (R111). -/
  | rdCtrl
  /-- WR_CTRL (R110), with the fields of R73: bits [6:0], [7], [8], [63:9]. -/
  | wrCtrl (width : BitVec 7) (rsv7 : BitVec 1) (order : ByteOrder) (rsvHi : BitVec 55)
  /-- RD_POLY (R113). -/
  | rdPoly
  /-- WR_POLY (R112). -/
  | wrPoly (v : Word)
  /-- RD_INIT (R115). -/
  | rdInit
  /-- WR_INIT (R114). -/
  | wrInit (v : Word)
  /-- RD_REG (R118). -/
  | rdReg
  /-- ERR_WR_RO (R184): a write of a read-only register. -/
  | errWrRo (target : Register) (v : Word)
  /-- ERR_RD_WO (R184): a read of DATA or CMD. -/
  | errRdWo (target : Register)
  /-- FEED (R117), with the fields of R74: bits [7:0], [63:8]. -/
  | feed (b : Byte) (rsv : BitVec 56)
  /-- CMD_START (R116), with ARG and the reserved field of R76: bits [15:8], [63:16]. -/
  | cmdStart (arg : Byte) (rsv : BitVec 48)
  /-- CMD_PRESET48 (R120). -/
  | cmdPreset48 (arg : Byte) (rsv : BitVec 48)
  /-- CMD_PRESET16 (R121). -/
  | cmdPreset16 (arg : Byte) (rsv : BitVec 48)
  /-- CMD_KEYGEN (R156); ARG is the sector. -/
  | cmdKeygen (arg : Byte) (rsv : BitVec 48)
  /-- CMD_KEYGEN_ALL (R157). -/
  | cmdKeygenAll (arg : Byte) (rsv : BitVec 48)
  /-- CMD_CLRERR (R181). -/
  | cmdClrerr (arg : Byte) (rsv : BitVec 48)
  /-- ERR_CMD_UNKNOWN (R186): OP 0x00 or 0x07 to 0xFF. -/
  | errCmdUnknown (op : Byte) (arg : Byte) (rsv : BitVec 48)
  /-- RD_OUT (R119). -/
  | rdOut
  /-- RD_STATUS (R180). -/
  | rdStatus
  /-- RD_UID (R155). -/
  | rdUid
  /-- WR_UID (R154), with the fields of R77: bits [31:0], [63:32]. -/
  | wrUid (uid : BitVec 32) (rsv : BitVec 32)
  /-- RD_KVALID (R158). -/
  | rdKvalid
  /-- RD_KEY (R159). -/
  | rdKey (s : Sector)
  deriving DecidableEq, Repr

/-- The mnemonics of spec/opcode_table.json. -/
inductive Mnemonic where
  | ERR_MISALIGNED | ERR_UNMAPPED
  | RD_CTRL | WR_CTRL | RD_POLY | WR_POLY | RD_INIT | WR_INIT | RD_REG
  | ERR_WR_RO | ERR_RD_WO | FEED
  | CMD_START | CMD_PRESET48 | CMD_PRESET16 | CMD_KEYGEN | CMD_KEYGEN_ALL | CMD_CLRERR | ERR_CMD_UNKNOWN
  | RD_OUT | RD_STATUS | RD_UID | WR_UID | RD_KVALID | RD_KEY
  deriving DecidableEq, Repr

/-- The mnemonic of an operation. -/
def Instr.mnemonic : Instr → Mnemonic
  | .errMisaligned _ _ => .ERR_MISALIGNED
  | .errUnmapped _ _ => .ERR_UNMAPPED
  | .rdCtrl => .RD_CTRL
  | .wrCtrl _ _ _ _ => .WR_CTRL
  | .rdPoly => .RD_POLY
  | .wrPoly _ => .WR_POLY
  | .rdInit => .RD_INIT
  | .wrInit _ => .WR_INIT
  | .rdReg => .RD_REG
  | .errWrRo _ _ => .ERR_WR_RO
  | .errRdWo _ => .ERR_RD_WO
  | .feed _ _ => .FEED
  | .cmdStart _ _ => .CMD_START
  | .cmdPreset48 _ _ => .CMD_PRESET48
  | .cmdPreset16 _ _ => .CMD_PRESET16
  | .cmdKeygen _ _ => .CMD_KEYGEN
  | .cmdKeygenAll _ _ => .CMD_KEYGEN_ALL
  | .cmdClrerr _ _ => .CMD_CLRERR
  | .errCmdUnknown _ _ _ => .ERR_CMD_UNKNOWN
  | .rdOut => .RD_OUT
  | .rdStatus => .RD_STATUS
  | .rdUid => .RD_UID
  | .wrUid _ _ => .WR_UID
  | .rdKvalid => .RD_KVALID
  | .rdKey _ => .RD_KEY

end Sys2Proof
end

