-- ==== Sys2Proof/WellFormed.lean ====
section
/-! DEFINITION. Which terms of `Instr` are operations that some transaction spells (spec/30_encoding.md R72). -/

namespace Sys2Proof

/-- The host access of each location (R51). -/
def Register.hostAccess : Register → HostAccess
  | .ctrl | .poly | .initVal | .uid => .readWrite
  | .data | .cmd => .writeOnly
  | .reg | .out | .status | .kvalid | .key _ => .readOnly

/-- The aligned offsets with no register (R51, R185). -/
def unmappedOffsets : List Byte := [0x50, 0x58, 0x60, 0x68, 0x70, 0x78]

/-- The command codes of R76. -/
def commandCodes : List Byte := [0x01, 0x02, 0x03, 0x04, 0x05, 0x06]

/-- The check of each operation: an error operation carries an offset, a register or a code for which R72 selects it.
Every operand value of the other operations is well formed. -/
def wellFormed : Instr → Bool
  | .errMisaligned addr _ => addr.extractLsb' 0 3 != 0
  | .errUnmapped addr _ => unmappedOffsets.contains addr
  | .errWrRo target _ => target.hostAccess == .readOnly
  | .errRdWo target => target.hostAccess == .writeOnly
  | .errCmdUnknown op _ _ => !commandCodes.contains op
  | .rdCtrl | .wrCtrl _ _ _ _ | .rdPoly | .wrPoly _ | .rdInit | .wrInit _ | .rdReg | .feed _ _
  | .cmdStart _ _ | .cmdPreset48 _ _ | .cmdPreset16 _ _ | .cmdKeygen _ _ | .cmdKeygenAll _ _ | .cmdClrerr _ _
  | .rdOut | .rdStatus | .rdUid | .wrUid _ _ | .rdKvalid | .rdKey _ => true

end Sys2Proof
end

