-- ==== Sys2Proof/Decode.lean ====
section
/-! DEFINITION. The decoder of spec/30_encoding.md R72 over transactions and over bytes, the encoder beside it, and the
opcode table with the 17-bit decode key of R71. -/

namespace Sys2Proof

/-- `addr[2:0] != 0` (R52, R72). -/
def misaligned (addr : Byte) : Bool := addr.extractLsb' 0 3 != 0

/-- The sector of a KEY offset, `addr[6:3]` (R80). -/
def sectorOfOffset (addr : Byte) : Sector := (addr.extractLsb' 3 4).toFin

/-- The register map (R51): the register at an aligned offset, none where the offset is unmapped. -/
def registerAt (addr : Byte) : Option Register :=
  if addr.getLsbD 7 then some (.key (sectorOfOffset addr))
  else match addr with
    | 0x00#8 => some .ctrl
    | 0x08#8 => some .poly
    | 0x10#8 => some .initVal
    | 0x18#8 => some .reg
    | 0x20#8 => some .data
    | 0x28#8 => some .cmd
    | 0x30#8 => some .out
    | 0x38#8 => some .status
    | 0x40#8 => some .uid
    | 0x48#8 => some .kvalid
    | _ => none

/-- The offset of each register (R51). -/
def Register.offset : Register → Byte
  | .ctrl => 0x00
  | .poly => 0x08
  | .initVal => 0x10
  | .reg => 0x18
  | .data => 0x20
  | .cmd => 0x28
  | .out => 0x30
  | .status => 0x38
  | .uid => 0x40
  | .kvalid => 0x48
  | .key s => BitVec.ofNat 8 (0x80 + 8 * s.val)

/-- `CTRL.ORDER` from its bit (R22). -/
def ByteOrder.ofBit : BitVec 1 → ByteOrder := fun b => if b = 0 then .big else .little

/-- The bit of `CTRL.ORDER` (R22). -/
def ByteOrder.toBit : ByteOrder → BitVec 1
  | .big => 0
  | .little => 1

/-- A read of a register (R72, `we` = 0). -/
def decodeRead : Register → Instr
  | .ctrl => .rdCtrl
  | .poly => .rdPoly
  | .initVal => .rdInit
  | .reg => .rdReg
  | .data => .errRdWo .data
  | .cmd => .errRdWo .cmd
  | .out => .rdOut
  | .status => .rdStatus
  | .uid => .rdUid
  | .kvalid => .rdKvalid
  | .key s => .rdKey s

/-- A write of CTRL: the fields of R73. -/
def decodeCtrlWord (v : Word) : Instr :=
  .wrCtrl (v.extractLsb' 0 7) (v.extractLsb' 7 1) (.ofBit (v.extractLsb' 8 1)) (v.extractLsb' 9 55)

/-- A write of CMD: OP, ARG and the reserved field of R76. -/
def decodeCmdWord (v : Word) : Instr :=
  let op : Byte := v.extractLsb' 0 8
  let arg : Byte := v.extractLsb' 8 8
  let rsv : BitVec 48 := v.extractLsb' 16 48
  match op with
  | 0x01#8 => .cmdStart arg rsv
  | 0x02#8 => .cmdPreset48 arg rsv
  | 0x03#8 => .cmdPreset16 arg rsv
  | 0x04#8 => .cmdKeygen arg rsv
  | 0x05#8 => .cmdKeygenAll arg rsv
  | 0x06#8 => .cmdClrerr arg rsv
  | _ => .errCmdUnknown op arg rsv

/-- A write of a register (R72, `we` = 1). -/
def decodeWrite (r : Register) (v : Word) : Instr :=
  match r with
  | .ctrl => decodeCtrlWord v
  | .poly => .wrPoly v
  | .initVal => .wrInit v
  | .data => .feed (v.extractLsb' 0 8) (v.extractLsb' 8 56)
  | .cmd => decodeCmdWord v
  | .uid => .wrUid (v.extractLsb' 0 32) (v.extractLsb' 32 32)
  | .reg => .errWrRo .reg v
  | .out => .errWrRo .out v
  | .status => .errWrRo .status v
  | .kvalid => .errWrRo .kvalid v
  | .key s => .errWrRo (.key s) v

/-- The decoder of R72. It is total: every transaction is exactly one operation. -/
def decode (t : Transaction) : Instr :=
  if misaligned t.addr then .errMisaligned t.addr t.access
  else match registerAt t.addr with
    | none => .errUnmapped t.addr t.access
    | some r => match t.access with
      | .read => decodeRead r
      | .write v => decodeWrite r v

/-- The CMD write word of R76. -/
def cmdWord (op arg : Byte) (rsv : BitVec 48) : Word := rsv ++ arg ++ op

/-- A write transaction of a register. -/
def writeOf (r : Register) (v : Word) : Transaction := ⟨r.offset, .write v⟩

/-- A read transaction of a register. -/
def readOf (r : Register) : Transaction := ⟨r.offset, .read⟩

/-- The encoder: the transaction that spells an operation, from the encoding of each operation's rule (R110 to R121, R154
to R159, R180 to R186) and the field tables R73 to R77. -/
def encode : Instr → Transaction
  | .errMisaligned addr access => ⟨addr, access⟩
  | .errUnmapped addr access => ⟨addr, access⟩
  | .rdCtrl => readOf .ctrl
  | .wrCtrl width rsv7 order rsvHi => writeOf .ctrl (rsvHi ++ order.toBit ++ rsv7 ++ width)
  | .rdPoly => readOf .poly
  | .wrPoly v => writeOf .poly v
  | .rdInit => readOf .initVal
  | .wrInit v => writeOf .initVal v
  | .rdReg => readOf .reg
  | .errWrRo target v => writeOf target v
  | .errRdWo target => readOf target
  | .feed b rsv => writeOf .data (rsv ++ b)
  | .cmdStart arg rsv => writeOf .cmd (cmdWord 0x01 arg rsv)
  | .cmdPreset48 arg rsv => writeOf .cmd (cmdWord 0x02 arg rsv)
  | .cmdPreset16 arg rsv => writeOf .cmd (cmdWord 0x03 arg rsv)
  | .cmdKeygen arg rsv => writeOf .cmd (cmdWord 0x04 arg rsv)
  | .cmdKeygenAll arg rsv => writeOf .cmd (cmdWord 0x05 arg rsv)
  | .cmdClrerr arg rsv => writeOf .cmd (cmdWord 0x06 arg rsv)
  | .errCmdUnknown op arg rsv => writeOf .cmd (cmdWord op arg rsv)
  | .rdOut => readOf .out
  | .rdStatus => readOf .status
  | .rdUid => readOf .uid
  | .wrUid uid rsv => writeOf .uid (rsv ++ uid)
  | .rdKvalid => readOf .kvalid
  | .rdKey s => readOf (.key s)

/-! ## The decode key and the opcode table (R71) -/

/-- The decode key `K = (we << 16) | (addr << 8) | wdata[7:0]`, the low byte 0 for a read. -/
def Transaction.key (t : Transaction) : BitVec 17 :=
  match t.access with
  | .read => (0#1) ++ t.addr ++ (0#8)
  | .write v => (1#1) ++ t.addr ++ v.extractLsb' 0 8

/-- One row of spec/opcode_table.json. -/
structure OpcodeRow where
  mnemonic : Mnemonic
  pattern : BitVec 17
  mask : BitVec 17
  deriving DecidableEq, Repr

/-- The rows of illegal offsets. -/
def opcodeRowsOffsets : List OpcodeRow := [
  ⟨.ERR_MISALIGNED, 0x00100, 0x00100⟩, ⟨.ERR_MISALIGNED, 0x00200, 0x00200⟩, ⟨.ERR_MISALIGNED, 0x00400, 0x00400⟩,
  ⟨.ERR_UNMAPPED, 0x05000, 0x0F700⟩, ⟨.ERR_UNMAPPED, 0x06000, 0x0E700⟩]

/-- The rows of CTRL, POLY, INIT, REG and DATA. -/
def opcodeRowsEngine : List OpcodeRow := [
  ⟨.RD_CTRL, 0x00000, 0x1FF00⟩, ⟨.WR_CTRL, 0x10000, 0x1FF00⟩, ⟨.RD_POLY, 0x00800, 0x1FF00⟩,
  ⟨.WR_POLY, 0x10800, 0x1FF00⟩, ⟨.RD_INIT, 0x01000, 0x1FF00⟩, ⟨.WR_INIT, 0x11000, 0x1FF00⟩,
  ⟨.RD_REG, 0x01800, 0x1FF00⟩, ⟨.ERR_WR_RO, 0x11800, 0x1FF00⟩, ⟨.ERR_RD_WO, 0x02000, 0x1FF00⟩,
  ⟨.FEED, 0x12000, 0x1FF00⟩]

/-- The rows of CMD. -/
def opcodeRowsCmd : List OpcodeRow := [
  ⟨.ERR_RD_WO, 0x02800, 0x1FF00⟩, ⟨.CMD_START, 0x12801, 0x1FFFF⟩, ⟨.CMD_PRESET48, 0x12802, 0x1FFFF⟩,
  ⟨.CMD_PRESET16, 0x12803, 0x1FFFF⟩, ⟨.CMD_KEYGEN, 0x12804, 0x1FFFF⟩, ⟨.CMD_KEYGEN_ALL, 0x12805, 0x1FFFF⟩,
  ⟨.CMD_CLRERR, 0x12806, 0x1FFFF⟩, ⟨.ERR_CMD_UNKNOWN, 0x12800, 0x1FF00⟩]

/-- The rows of OUT, STATUS, UID, KVALID and KEY. -/
def opcodeRowsRest : List OpcodeRow := [
  ⟨.RD_OUT, 0x03000, 0x1FF00⟩, ⟨.ERR_WR_RO, 0x13000, 0x1FF00⟩, ⟨.RD_STATUS, 0x03800, 0x1FF00⟩,
  ⟨.ERR_WR_RO, 0x13800, 0x1FF00⟩, ⟨.RD_UID, 0x04000, 0x1FF00⟩, ⟨.WR_UID, 0x14000, 0x1FF00⟩,
  ⟨.RD_KVALID, 0x04800, 0x1FF00⟩, ⟨.ERR_WR_RO, 0x14800, 0x1FF00⟩, ⟨.RD_KEY, 0x08000, 0x18700⟩,
  ⟨.ERR_WR_RO, 0x18000, 0x18700⟩]

/-- The 33 rows of spec/opcode_table.json, in its order. -/
def opcodeTable : List OpcodeRow := opcodeRowsOffsets ++ opcodeRowsEngine ++ opcodeRowsCmd ++ opcodeRowsRest

/-- A row matches a key when `(K & mask) == match` (R71). -/
def OpcodeRow.matchesKey (row : OpcodeRow) (k : BitVec 17) : Bool := k &&& row.mask == row.pattern

/-- The mnemonic of the first matching row (R71). -/
def tableMnemonic (k : BitVec 17) : Option Mnemonic := (opcodeTable.find? (·.matchesKey k)).map (·.mnemonic)

/-! ## Transactions as bytes

The spec gives a transaction no byte image. The one here continues the numbering of the decode key: byte 0 is
`wdata[7:0]`, byte 1 is `addr`, byte 2 is `we`, bytes 3 to 9 are `wdata[15:8]` to `wdata[63:56]` (DESIGN CHOICE, safe;
log 9). -/

/-- Why ten bytes are no transaction. -/
inductive DecodeError where
  /-- The image is not ten bytes long. -/
  | wrongLength
  /-- The byte of `we` is neither 0 nor 1. -/
  | badDirection
  deriving DecidableEq, Repr

/-- The transaction of a byte image; a read ignores its data bytes (R70). -/
def transactionOfBytes : List Byte → Except DecodeError Transaction
  | [d0, addr, we, d1, d2, d3, d4, d5, d6, d7] =>
    if we = 0 then .ok ⟨addr, .read⟩
    else if we = 1 then .ok ⟨addr, .write (d7 ++ d6 ++ d5 ++ d4 ++ d3 ++ d2 ++ d1 ++ d0)⟩
    else .error .badDirection
  | _ => .error .wrongLength

/-- The byte image of a transaction. -/
def bytesOfTransaction (t : Transaction) : List Byte :=
  match t.access with
  | .read => [0, t.addr, 0, 0, 0, 0, 0, 0, 0, 0]
  | .write v => [v.extractLsb' 0 8, t.addr, 1, v.extractLsb' 8 8, v.extractLsb' 16 8, v.extractLsb' 24 8,
      v.extractLsb' 32 8, v.extractLsb' 40 8, v.extractLsb' 48 8, v.extractLsb' 56 8]

/-- Decoding of any bytes: an operation, or a rejection by name. -/
def decodeBytes (bs : List Byte) : Except DecodeError Instr :=
  match transactionOfBytes bs with
  | .ok t => .ok (decode t)
  | .error e => .error e

/-- The byte image of an operation. -/
def encodeBytes (i : Instr) : List Byte := bytesOfTransaction (encode i)

/-- The ten bytes of a table word of `nbits` bits, the bits above them zero. -/
def tableWordBytes (nbits w : Nat) : List Byte :=
  (List.range 10).map fun i => BitVec.ofNat 8 (w % 2 ^ nbits / 2 ^ (8 * i))

/-- The transaction that a table word spells, none where it spells none (a bit above bit 16 in the byte of `we`, or one
above bit 79). -/
def transactionOfTableWord (nbits w : Nat) : Option Transaction :=
  if w % 2 ^ nbits < 2 ^ 80 then
    match transactionOfBytes (tableWordBytes nbits w) with
    | .ok t => some t
    | .error _ => none
  else none

/-- The operation the decoder reads from a word numbered as spec/opcode_table.json numbers it (R71). -/
def decodeTableWord (nbits w : Nat) : Option Instr := (transactionOfTableWord nbits w).map decode

end Sys2Proof
end

