-- ==== Sys2Proof/Config.lean ====
section
/-! DEFINITION. What is constant for one CRCN: the three OPEN parameters of spec/00_scope.md R6 and R7, and the one
free value of spec/93_implementation_defined.md X9. None of them has a body, so no proof can use a value of theirs. -/

namespace Sys2Proof

/-- `P_CRC48_POLY`, 64 stored bits. OPEN (R6, R7, D12; log 5). -/
opaque Config.crc48Poly : Word

/-- `P_CRC48_INIT`, 64 stored bits. OPEN (R6, R7, D12; log 5). -/
opaque Config.crc48Init : Word

/-- `P_SECTOR0_KEY`, 6 bytes in card storage order. OPEN (R6, R7, D13; log 5). -/
opaque Config.sector0Key : Vector Byte 6

/-- The word returned by the `n`-th read that meets reset: not specified by R220, a free draw by X9 (log 4). -/
opaque Config.readDuringReset : Nat → Word

/-- A CrcSpec of R100 (the source's immutable triple). The width is the value `CTRL.WIDTH` takes. -/
structure CrcSpec where
  width : BitVec 7
  poly : Word
  initVal : Word
  deriving DecidableEq, Repr

end Sys2Proof
end

