-- ==== Sys2Proof/Machine/State.lean ====
section
/-! DEFINITION. The state of CRCN (spec/10_state.md R20), what the host sends and gets back (spec/20_memory.md R61, R62),
and the state after reset (R35). -/

namespace Sys2Proof.Machine

/-- The error codes of spec/60_exceptions.md R191. Codes 8 to 15 are never produced and have no constructor (X6; log 6). -/
inductive ErrCode where
  | none
  | badAddr
  | badAccess
  | rsvd
  | badWidth
  | badCmd
  | badSector
  | notActive
  deriving DecidableEq, Repr

/-- One thing the host does (R61, R62, R220). -/
inductive HostEvent where
  /-- A bus transaction. -/
  | request (t : Transaction)
  /-- The reset input, between transactions. -/
  | reset
  /-- A transaction that arrives together with reset, or is issued while reset is held. -/
  | resetWithRequest (t : Transaction)
  deriving DecidableEq, Repr

/-- What the response port carries (R62): the word of a read, or the response of a write, which carries no data. -/
inductive Response where
  | data (w : Word)
  | done
  deriving DecidableEq, Repr

/-- CRCN never stops: an error is recorded in STATUS and the next transaction runs normally (R190). No meaning faults, so
there is no constructor (log 13). -/
inductive Fault where
  deriving DecidableEq, Repr

/-- Why a step has no meaning. -/
inductive Refusal where
  /-- The operation has no meaning in this model; raised by an arm of `exec` only, and by none at present. Safe. -/
  | notModelled (mnemonic : String)
  deriving DecidableEq, Repr

/-- The state. The first eleven fields are the record of R20; the last three are the model's own. -/
structure State where
  /-- `CTRL.WIDTH` (R22, R23). -/
  ctrlWidth : BitVec 7
  /-- `CTRL.ORDER` (R22). -/
  ctrlOrder : ByteOrder
  /-- `POLY` (R24). -/
  poly : Word
  /-- `INIT` (R25). -/
  initVal : Word
  /-- `REG`, the CRC working register (R26). -/
  reg : Word
  /-- `STATUS.ACTIVE`: a stream is open (R27). -/
  active : Bool
  /-- `STATUS.ERR`: an error has been recorded (R27). -/
  err : Bool
  /-- `STATUS.ERRCODE`: the code of the first recorded error (R27). -/
  errcode : ErrCode
  /-- `UID`, byte `i` in bits `[8i+7:8i]` (R30). -/
  uid : BitVec 32
  /-- `KVALID` (R31). -/
  kvalid : BitVec 16
  /-- `KEY[0..15]` (R32). -/
  keys : Vector (BitVec 48) 16
  /-- What the host does next, oldest first (log 1). -/
  pending : List HostEvent
  /-- The last response on the response port (log 3). -/
  response : Option Response
  /-- How many free values have been drawn (log 4). -/
  draws : Nat
  deriving DecidableEq, Repr

/-- The state after reset: every element of R20 at its value of R35; nothing pending, no response, no free value drawn
(DESIGN CHOICE; logs 1, 3, 4). -/
def State.reset : State where
  ctrlWidth := 16
  ctrlOrder := .big
  poly := 0x0000000000001021
  initVal := 0x000000000000FFFF
  reg := 0
  active := false
  err := false
  errcode := .none
  uid := 0
  kvalid := 0
  keys := Vector.replicate 16 0
  pending := []
  response := none
  draws := 0

end Sys2Proof.Machine
end

