-- ==== Sys2Proof/Machine/Operands.lean ====
section
/-! DEFINITION. Operand forms: byte strings and bus words (spec/00_scope.md R8, R10, R12), the checks on written fields
(spec/30_encoding.md R73 to R78) and the words that registers read as (spec/10_state.md R22, R30, R31, R32). -/

namespace Sys2Proof.Machine

/-! ## Byte strings and words -/

/-- `mask(w) = 2^w - 1`, exact for every width up to 64 (R8, D29). -/
def mask (w : Nat) : Word := BitVec.ofNat 64 (2 ^ w - 1)

/-- `BE_n(v)`: most significant byte first (R10). -/
def beBytes (n : Nat) (v : Word) : ByteString := (List.range n).map fun i => v.extractLsb' (8 * (n - 1 - i)) 8

/-- `LE_n(v)`: least significant byte first (R10). -/
def leBytes (n : Nat) (v : Word) : ByteString := (List.range n).map fun i => v.extractLsb' (8 * i) 8

/-- `swap(s)` (R10). -/
def swap (s : ByteString) : ByteString := s.reverse

/-- `pack(s)`, of a string of at most 8 bytes: byte `i` in bits `[8i+7:8i]` (R12). -/
def pack : ByteString → Word
  | [] => 0
  | b :: bs => (pack bs <<< 8) ||| b.setWidth 64

/-- `unpack_n(v)` (R12). -/
def unpack (n : Nat) (v : Word) : ByteString := (List.range n).map fun i => v.extractLsb' (8 * i) 8

/-! ## Checks on written fields -/

/-- `LEGAL_WIDTHS` (R6, R100; 90_conflicts.md C1). -/
def legalWidths : List (BitVec 7) := [8, 16, 24, 32, 40, 48, 56, 64]

/-- A width in `LEGAL_WIDTHS`. -/
def legalWidth (w : BitVec 7) : Bool := legalWidths.contains w

/-- The reserved fields of a CTRL word are 0 (R73). -/
def ctrlReservedZero (rsv7 : BitVec 1) (rsvHi : BitVec 55) : Bool := rsv7 == 0 && rsvHi == 0

/-- The reserved field and ARG of a command other than KEYGEN are 0 (R76). -/
def noArgument (arg : Byte) (rsv : BitVec 48) : Bool := rsv == 0 && arg == 0

/-- The sector of `CMD_KEYGEN`: ARG, unsigned and not scaled, where it is at most 15 (R76, R80). -/
def sectorOfArg (arg : Byte) : Option Sector := if h : arg.toNat < 16 then some ⟨arg.toNat, h⟩ else none

/-! ## The words registers read as -/

/-- The word of CTRL: WIDTH in bits [6:0], ORDER in bit 8, the rest 0 (R22, R111). -/
def State.ctrlWord (s : State) : Word := (s.ctrlOrder.toBit.setWidth 64 <<< 8) ||| s.ctrlWidth.setWidth 64

/-- The word of UID (R30, R155). -/
def State.uidWord (s : State) : Word := s.uid.setWidth 64

/-- The four UID bytes `u0..u3`, `u_i = UID[8i+7:8i]` (R30). -/
def uidBytes (uid : BitVec 32) : ByteString := unpack 4 (uid.setWidth 64)

/-- The word of KVALID (R31, R158). -/
def State.kvalidWord (s : State) : Word := s.kvalid.setWidth 64

/-- The word of `KEY[k]` (R32, R159). -/
def State.keyWord (k : Sector) (s : State) : Word := s.keys[k].setWidth 64

end Sys2Proof.Machine
end

