-- ==== Sys2Proof/Machine/Crc.lean ====
section
/-! DEFINITION. The CRC arithmetic as pure functions (spec/40_crc_engine.md R101 to R105, R123) and the two standing specs
(spec/10_state.md R33). Words are 64 bits: a bit that a left shift would put above bit 63 is one that `mask(w)` drops, as
every width is at most 64 (DEDUCED, log 7). -/

namespace Sys2Proof.Machine

/-- `round(w, poly, r)` (R103): the top bit is tested before the shift. -/
def crcRound (w : Nat) (poly r : Word) : Word :=
  if r.getLsbD (w - 1) then ((r <<< 1) ^^^ poly) &&& mask w else (r <<< 1) &&& mask w

/-- `k` rounds. -/
def crcRounds (w : Nat) (poly : Word) : Nat → Word → Word
  | 0, r => r
  | k + 1, r => crcRounds w poly k (crcRound w poly r)

/-- `feed_byte(w, poly, r, b)` (R102): the byte is XORed into bits `[w-1 : w-8]`, then eight rounds. -/
def feedByte (w : Nat) (poly r : Word) (b : Byte) : Word := crcRounds w poly 8 (r ^^^ (b.setWidth 64 <<< (w - 8)))

/-- `crc_reg(w, poly, init, s)` (R101). -/
def crcReg (w : Nat) (poly initVal : Word) (s : ByteString) : Word := s.foldl (feedByte w poly) (initVal &&& mask w)

/-- `serialize(w, order, r)` (R104). -/
def serialize (w : Nat) (order : ByteOrder) (r : Word) : ByteString :=
  match order with
  | .big => beBytes (w / 8) (r &&& mask w)
  | .little => leBytes (w / 8) (r &&& mask w)

/-- The source's `compute(spec, input)` (R105). -/
def compute (spec : CrcSpec) (input : ByteString) : ByteString :=
  serialize spec.width.toNat .big (crcReg spec.width.toNat spec.poly spec.initVal input)

/-- The standing 48-bit spec of key derivation, its values OPEN (R6, R33, D12). -/
def crc48Spec : CrcSpec := ⟨48, Config.crc48Poly, Config.crc48Init⟩

/-- The standing 16-bit spec of checksums (R6, R33, D11). -/
def crc16Spec : CrcSpec := ⟨16, 0x1021, 0xFFFF⟩

/-- The checksum of a byte range the host supplies: the 16-bit CRC, byte-swapped to storage order (R123). -/
def checksum (range : ByteString) : ByteString := swap (compute crc16Spec range)

end Sys2Proof.Machine
end

