-- ==== Sys2Proof/Machine/Flags.lean ====
section
/-! DEFINITION. The flags ACTIVE and ERR and the field ERRCODE (spec/10_state.md R27, R36; spec/60_exceptions.md R191,
R193; spec/42_status_control.md R180, R181). -/

namespace Sys2Proof.Machine

/-- The number of an error code (R191). -/
def ErrCode.toBits : ErrCode → BitVec 4
  | .none => 0
  | .badAddr => 1
  | .badAccess => 2
  | .rsvd => 3
  | .badWidth => 4
  | .badCmd => 5
  | .badSector => 6
  | .notActive => 7

/-- `record(c)` of R193: ERRCODE keeps the first error since the last clear. -/
def State.recordError (c : ErrCode) (s : State) : State :=
  { s with err := true, errcode := if s.err then s.errcode else c }

/-- `CMD_CLRERR`'s effect (R181). -/
def State.clearError (s : State) : State := { s with err := false, errcode := .none }

/-- `STATUS.ACTIVE <- 0`. -/
def State.closeStream (s : State) : State := { s with active := false }

/-- `STATUS.ACTIVE <- 1`. -/
def State.openStream (s : State) : State := { s with active := true }

/-- The word of STATUS: `(ERRCODE << 4) | (ERR << 1) | ACTIVE` (R180). -/
def State.statusWord (s : State) : Word :=
  (s.errcode.toBits.setWidth 64 <<< 4) ||| ((BitVec.ofBool s.err).setWidth 64 <<< 1) |||
    (BitVec.ofBool s.active).setWidth 64

end Sys2Proof.Machine
end

