-- ==== Sys2Proof/Machine/Ops.lean ====
section
/-! DEFINITION. The shared operations: answering a transaction, refusing one with an error code (the one place where CRCN
"takes an exception", spec/60_exceptions.md R193, R194), writing registers, and the host's events (spec/70 R220). There is
no return from an exception: the host's recovery is `CMD_CLRERR` (R197), `State.clearError` of Flags.lean. -/

namespace Sys2Proof.Machine

/-- What a meaning answers. -/
abbrev Outcome := Host.Outcome State Fault Refusal

/-! ## Responses (R62) -/

/-- The response of a read: the word `w`. -/
def State.answerRead (w : Word) (s : State) : State := { s with response := some (.data w) }

/-- The response of a write, which carries no data. -/
def State.answerWrite (s : State) : State := { s with response := some .done }

/-! ## Errors (R193, R194) -/

/-- `raise Error(c)` in a read: the error is recorded and the word 0 is returned (R194). -/
def State.refuseRead (c : ErrCode) (s : State) : State := (s.recordError c).answerRead 0

/-- `raise Error(c)` in a write: the error is recorded and nothing else changes (R194). -/
def State.refuseWrite (c : ErrCode) (s : State) : State := (s.recordError c).answerWrite

/-- `raise Error(c)` in a transaction of either direction. -/
def State.refuse (c : ErrCode) (access : Access) (s : State) : State :=
  match access with
  | .read => s.refuseRead c
  | .write _ => s.refuseWrite c

/-! ## Writes of registers -/

/-- `CTRL.WIDTH <- w ; CTRL.ORDER <- o` (R110). -/
def State.setCtrl (w : BitVec 7) (o : ByteOrder) (s : State) : State := { s with ctrlWidth := w, ctrlOrder := o }

/-- `POLY <- v` (R112). -/
def State.setPoly (v : Word) (s : State) : State := { s with poly := v }

/-- `INIT <- v` (R114). -/
def State.setInit (v : Word) (s : State) : State := { s with initVal := v }

/-- `REG <- v` (R26: START and FEED only). -/
def State.setReg (v : Word) (s : State) : State := { s with reg := v }

/-- Load a standing spec: WIDTH, POLY and INIT, not ORDER (R120, R121, D10). -/
def State.loadSpec (spec : CrcSpec) (s : State) : State :=
  { s with ctrlWidth := spec.width, poly := spec.poly, initVal := spec.initVal }

/-- `UID <- v ; KVALID <- 0` (R154). -/
def State.setUid (v : BitVec 32) (s : State) : State := { s with uid := v, kvalid := 0 }

/-- `KEY[k] <- v ; KVALID[k] <- 1` (R156). -/
def State.setKey (k : Sector) (v : BitVec 48) (s : State) : State :=
  { s with keys := s.keys.set k.val v k.isLt, kvalid := s.kvalid ||| (1#16 <<< k.val) }

/-- All sixteen keys and `KVALID <- 0xFFFF` (R157). -/
def State.setKeys (v : Sector → BitVec 48) (s : State) : State :=
  { s with keys := Vector.ofFn v, kvalid := 0xFFFF }

/-! ## The host's events (R61, R220) -/

/-- The next event of the host, and the state from which it runs; none while the host does nothing. -/
def State.nextEvent (s : State) : Option (HostEvent × State) :=
  match s.pending with
  | [] => none
  | e :: rest => some (e, { s with pending := rest })

/-- Reset: every element of R20 takes its value of R35; the host's own future, and the draws made, are no state of
CRCN and stay; nothing is returned (R61; log 3). -/
def State.applyReset (s : State) : State := { State.reset with pending := s.pending, draws := s.draws }

/-- A transaction that meets reset: reset wins; a read returns a word that is not specified (R220, X9; log 4). -/
def State.applyResetWith (t : Transaction) (s : State) : State :=
  match t.access with
  | .read => { s.applyReset.answerRead (Config.readDuringReset s.draws) with draws := s.draws + 1 }
  | .write _ => s.applyReset.answerWrite

/-- With nothing from the host, CRCN keeps its state: no background work (R5), no hidden state (R34) (DEDUCED; log 2). -/
def State.idle (s : State) : State := s

/-- Put an event before everything the host still has to do. -/
def State.pushEvent (e : HostEvent) (s : State) : State := { s with pending := e :: s.pending }

end Sys2Proof.Machine
end

