-- ==== Sys2Proof/Machine/Configuration.lean ====
section
/-! DEFINITION. The configuration operations (spec/40_crc_engine.md R110 to R115) and the presets (R120, R121). -/

namespace Sys2Proof.Machine

/-- WR_CTRL (R110): reserved bits first, then the width; an accepted write closes the stream. -/
def execWrCtrl (width : BitVec 7) (rsv7 : BitVec 1) (order : ByteOrder) (rsvHi : BitVec 55) (s : State) : Outcome :=
  if ctrlReservedZero rsv7 rsvHi then
    if legalWidth width then .next (s.setCtrl width order).closeStream.answerWrite
    else .next (s.refuseWrite .badWidth)
  else .next (s.refuseWrite .rsvd)

/-- RD_CTRL (R111). -/
def execRdCtrl (s : State) : Outcome := .next (s.answerRead s.ctrlWord)

/-- WR_POLY (R112). -/
def execWrPoly (v : Word) (s : State) : Outcome := .next (s.setPoly v).closeStream.answerWrite

/-- RD_POLY (R113). -/
def execRdPoly (s : State) : Outcome := .next (s.answerRead s.poly)

/-- WR_INIT (R114). -/
def execWrInit (v : Word) (s : State) : Outcome := .next (s.setInit v).closeStream.answerWrite

/-- RD_INIT (R115). -/
def execRdInit (s : State) : Outcome := .next (s.answerRead s.initVal)

/-- CMD_PRESET48 (R120). -/
def execCmdPreset48 (arg : Byte) (rsv : BitVec 48) (s : State) : Outcome :=
  if noArgument arg rsv then .next (s.loadSpec crc48Spec).closeStream.answerWrite
  else .next (s.refuseWrite .rsvd)

/-- CMD_PRESET16 (R121). -/
def execCmdPreset16 (arg : Byte) (rsv : BitVec 48) (s : State) : Outcome :=
  if noArgument arg rsv then .next (s.loadSpec crc16Spec).closeStream.answerWrite
  else .next (s.refuseWrite .rsvd)

end Sys2Proof.Machine
end

