-- ==== Sys2Proof/Machine/KeyDerivation.lean ====
section
/-! DEFINITION. The key derivation as pure functions (spec/41_key_derivation.md R150 to R153), over explicit parameters,
and its instance at the OPEN parameters of the machine. -/

namespace Sys2Proof.Machine

/-- The message of the CRC48: `uid ++ [s]` (R151). -/
def keyMessage (uid : ByteString) (s : Sector) : ByteString := uid ++ [BitVec.ofNat 8 s.val]

/-- `calc_key_a(uid, s)` for given values of `P_CRC48_POLY`, `P_CRC48_INIT` and `P_SECTOR0_KEY` (R150). -/
def calcKeyA (poly48 init48 : Word) (sector0Key uid : ByteString) (s : Sector) : ByteString :=
  if s = 0 then sector0Key
  else swap (beBytes 6 (crcReg 48 poly48 init48 (keyMessage uid s)))

/-- The word `KEY[s]` takes, `pack(calc_key_a(uid, s))[47:0]`, for given parameters (R153, R156). -/
def packedKey (poly48 init48 : Word) (sector0Key : ByteString) (uid : BitVec 32) (s : Sector) : BitVec 48 :=
  (pack (calcKeyA poly48 init48 sector0Key (uidBytes uid) s)).setWidth 48

/-- The word `KEY[s]` takes in this machine (R156). -/
def deriveKey (uid : BitVec 32) (s : Sector) : BitVec 48 :=
  packedKey crc48Spec.poly crc48Spec.initVal Config.sector0Key.toList uid s

end Sys2Proof.Machine
end

