-- ==== Sys2Proof/Machine/Keys.lean ====
section
/-! DEFINITION. The UID and key operations (spec/41_key_derivation.md R154 to R159). -/

namespace Sys2Proof.Machine

/-- WR_UID (R154). -/
def execWrUid (uid : BitVec 32) (rsv : BitVec 32) (s : State) : Outcome :=
  if rsv = 0 then .next (s.setUid uid).answerWrite else .next (s.refuseWrite .rsvd)

/-- RD_UID (R155). -/
def execRdUid (s : State) : Outcome := .next (s.answerRead s.uidWord)

/-- CMD_KEYGEN (R156): the reserved field first, then the sector's range. -/
def execCmdKeygen (arg : Byte) (rsv : BitVec 48) (s : State) : Outcome :=
  if rsv = 0 then
    match sectorOfArg arg with
    | some k => .next (s.setKey k (deriveKey s.uid k)).answerWrite
    | none => .next (s.refuseWrite .badSector)
  else .next (s.refuseWrite .rsvd)

/-- CMD_KEYGEN_ALL (R157). -/
def execCmdKeygenAll (arg : Byte) (rsv : BitVec 48) (s : State) : Outcome :=
  if noArgument arg rsv then .next (s.setKeys (deriveKey s.uid)).answerWrite
  else .next (s.refuseWrite .rsvd)

/-- RD_KVALID (R158). -/
def execRdKvalid (s : State) : Outcome := .next (s.answerRead s.kvalidWord)

/-- RD_KEY (R159): a read of a key whose KVALID bit is 0 returns the stored word. -/
def execRdKey (k : Sector) (s : State) : Outcome := .next (s.answerRead (s.keyWord k))

end Sys2Proof.Machine
end

