-- ==== Sys2Proof/Machine/StatusControl.lean ====
section
/-! DEFINITION. Status operations and illegal transactions (spec/42_status_control.md R180, R181, R184 to R186). -/

namespace Sys2Proof.Machine

/-- RD_STATUS (R180). -/
def execRdStatus (s : State) : Outcome := .next (s.answerRead s.statusWord)

/-- CMD_CLRERR (R181). -/
def execCmdClrerr (arg : Byte) (rsv : BitVec 48) (s : State) : Outcome :=
  if noArgument arg rsv then .next s.clearError.answerWrite else .next (s.refuseWrite .rsvd)

/-- ERR_MISALIGNED (R185). -/
def execErrMisaligned (_addr : Byte) (access : Access) (s : State) : Outcome := .next (s.refuse .badAddr access)

/-- ERR_UNMAPPED (R185). -/
def execErrUnmapped (_addr : Byte) (access : Access) (s : State) : Outcome := .next (s.refuse .badAddr access)

/-- ERR_WR_RO (R184). -/
def execErrWrRo (_target : Register) (_v : Word) (s : State) : Outcome := .next (s.refuseWrite .badAccess)

/-- ERR_RD_WO (R184): the read returns 0. -/
def execErrRdWo (_target : Register) (s : State) : Outcome := .next (s.refuseRead .badAccess)

/-- ERR_CMD_UNKNOWN (R186): the reserved field first, then the code. -/
def execErrCmdUnknown (_op _arg : Byte) (rsv : BitVec 48) (s : State) : Outcome :=
  if rsv = 0 then .next (s.refuseWrite .badCmd) else .next (s.refuseWrite .rsvd)

end Sys2Proof.Machine
end

