-- ==== Sys2Proof/Machine/Stream.lean ====
section
/-! DEFINITION. The stream operations (spec/40_crc_engine.md R116 to R119). -/

namespace Sys2Proof.Machine

/-- The register START loads, `INIT & mask(CTRL.WIDTH)` (R116). -/
def State.startValue (s : State) : Word := s.initVal &&& mask s.ctrlWidth.toNat

/-- The register after one more byte, `feed_byte(CTRL.WIDTH, POLY, REG, b)` (R117). -/
def State.fedReg (b : Byte) (s : State) : Word := feedByte s.ctrlWidth.toNat s.poly s.reg b

/-- The word of OUT, `pack(serialize(CTRL.WIDTH, CTRL.ORDER, REG))` (R28, R119). -/
def State.outWord (s : State) : Word := pack (serialize s.ctrlWidth.toNat s.ctrlOrder s.reg)

/-- CMD_START (R116). -/
def execCmdStart (arg : Byte) (rsv : BitVec 48) (s : State) : Outcome :=
  if noArgument arg rsv then .next (s.setReg s.startValue).openStream.answerWrite
  else .next (s.refuseWrite .rsvd)

/-- FEED (R117): a non-zero reserved field closes the stream too (R194). -/
def execFeed (b : Byte) (rsv : BitVec 56) (s : State) : Outcome :=
  if rsv = 0 then
    if s.active then .next (s.setReg (s.fedReg b)).answerWrite
    else .next (s.refuseWrite .notActive)
  else .next (s.closeStream.refuseWrite .rsvd)

/-- RD_REG (R118). -/
def execRdReg (s : State) : Outcome := .next (s.answerRead s.reg)

/-- RD_OUT (R119). -/
def execRdOut (s : State) : Outcome := .next (s.answerRead s.outWord)

end Sys2Proof.Machine
end

