-- ==== Sys2Proof/Machine/Dispatch.lean ====
section
/-! DEFINITION. One arm per constructor of Instr, one direct call of its meaning. -/

namespace Sys2Proof.Machine

def exec (i : Instr) (s : State) : Host.Outcome State Fault Refusal :=
  match i with
  | .errMisaligned addr access => Sys2Proof.Machine.execErrMisaligned addr access s
  | .errUnmapped addr access => Sys2Proof.Machine.execErrUnmapped addr access s
  | .rdCtrl => Sys2Proof.Machine.execRdCtrl s
  | .wrCtrl width rsv7 order rsvHi => Sys2Proof.Machine.execWrCtrl width rsv7 order rsvHi s
  | .rdPoly => Sys2Proof.Machine.execRdPoly s
  | .wrPoly v => Sys2Proof.Machine.execWrPoly v s
  | .rdInit => Sys2Proof.Machine.execRdInit s
  | .wrInit v => Sys2Proof.Machine.execWrInit v s
  | .rdReg => Sys2Proof.Machine.execRdReg s
  | .errWrRo target v => Sys2Proof.Machine.execErrWrRo target v s
  | .errRdWo target => Sys2Proof.Machine.execErrRdWo target s
  | .feed b rsv => Sys2Proof.Machine.execFeed b rsv s
  | .cmdStart arg rsv => Sys2Proof.Machine.execCmdStart arg rsv s
  | .cmdPreset48 arg rsv => Sys2Proof.Machine.execCmdPreset48 arg rsv s
  | .cmdPreset16 arg rsv => Sys2Proof.Machine.execCmdPreset16 arg rsv s
  | .cmdKeygen arg rsv => Sys2Proof.Machine.execCmdKeygen arg rsv s
  | .cmdKeygenAll arg rsv => Sys2Proof.Machine.execCmdKeygenAll arg rsv s
  | .cmdClrerr arg rsv => Sys2Proof.Machine.execCmdClrerr arg rsv s
  | .errCmdUnknown op arg rsv => Sys2Proof.Machine.execErrCmdUnknown op arg rsv s
  | .rdOut => Sys2Proof.Machine.execRdOut s
  | .rdStatus => Sys2Proof.Machine.execRdStatus s
  | .rdUid => Sys2Proof.Machine.execRdUid s
  | .wrUid uid rsv => Sys2Proof.Machine.execWrUid uid rsv s
  | .rdKvalid => Sys2Proof.Machine.execRdKvalid s
  | .rdKey k => Sys2Proof.Machine.execRdKey k s

end Sys2Proof.Machine
end

