-- ==== Sys2Proof/Machine/Step.lean ====
section
/-! DEFINITION. One step: the host's next event, performed whole (spec/20_memory.md R54, R57; spec/70 R220, R230). With
nothing from the host, CRCN keeps its state (DEDUCED from R5 and R34, log 2). -/

namespace Sys2Proof.Machine

/-- One event of the host, at the state that no longer has it pending. -/
def stepEvent (e : HostEvent) (s : State) : Host.Outcome State Fault Refusal :=
  match e with
  | .request t => exec (decode t) s
  | .reset => .next s.applyReset
  | .resetWithRequest t => .next (s.applyResetWith t)

/-- One step of CRCN. -/
def step (s : State) : Host.Outcome State Fault Refusal :=
  match s.nextEvent with
  | none => .next s.idle
  | some (e, s') => stepEvent e s'

/-- The state in which the host's next event is the transaction of a table word: the very next step runs it (log 10). A
word that is no transaction leaves the state as it is. -/
def State.withFetchWord (s : State) (nbits w : Nat) : State :=
  match transactionOfTableWord nbits w with
  | some t => s.pushEvent (.request t)
  | none => s

end Sys2Proof.Machine
end

