-- ==== Sys2Proof/Machine/Assembler.lean ====
section
/-! DEFINITION. The text form of transactions and the pseudo-instructions (spec/30_encoding.md R81, R82). A line is a list
of characters. Where R81 leaves the form open (blanks, operand ranges, empty lines) the choice is in logs 14, 17 and 18. -/

namespace Sys2Proof.Machine

/-- A line of R81 or R82, its operands already numbers. -/
inductive AsmLine where
  /-- An empty line or a comment. -/
  | blank
  /-- `RD <name>`. -/
  | rd (r : Register)
  /-- `WR <name>, <value>`. -/
  | wr (r : Register) (v : Word)
  /-- `FEED <byte>`. -/
  | feed (b : Byte)
  /-- `CMD <op>`, or `CMD KEYGEN, <s>`. -/
  | cmd (op arg : Byte)
  /-- `RD @<offset>`. -/
  | rdRaw (addr : Byte)
  /-- `WR @<offset>, <value>`. -/
  | wrRaw (addr : Byte) (v : Word)
  /-- `CONFIG w, p, i, o`. -/
  | config (w p i o : Word)
  /-- `FEEDS b0, ..., bn` or `FEEDS "text"`. -/
  | feeds (bs : ByteString)
  /-- `CRC b0, ..., bn`. -/
  | crc (bs : ByteString)
  /-- `SETUID u0, u1, u2, u3`. -/
  | setUid (u0 u1 u2 u3 : Byte)
  /-- `CHECKSUM16 b0, ..., bn`. -/
  | checksum16 (bs : ByteString)
  deriving DecidableEq, Repr

/-- A DATA write of `zext_64(b)`. -/
def feedOf (b : Byte) : Transaction := writeOf .data (b.setWidth 64)

/-- A CMD write of `zext_64((ARG << 8) | OP)`. -/
def cmdOf (op arg : Byte) : Transaction := writeOf .cmd ((arg.setWidth 64 <<< 8) ||| op.setWidth 64)

/-- `CMD START`. -/
def startOf : Transaction := cmdOf 0x01 0

/-- `CMD PRESET48`. -/
def preset48Of : Transaction := cmdOf 0x02 0

/-- `CMD PRESET16`. -/
def preset16Of : Transaction := cmdOf 0x03 0

/-- The transactions of a line, in order (R81, R82). -/
def AsmLine.expand : AsmLine → List Transaction
  | .blank => []
  | .rd r => [readOf r]
  | .wr r v => [writeOf r v]
  | .feed b => [feedOf b]
  | .cmd op arg => [cmdOf op arg]
  | .rdRaw addr => [⟨addr, .read⟩]
  | .wrRaw addr v => [⟨addr, .write v⟩]
  | .config w p i o => [writeOf .ctrl ((o <<< 8) ||| w), writeOf .poly p, writeOf .initVal i]
  | .feeds bs => bs.map feedOf
  | .crc bs => [startOf] ++ bs.map feedOf ++ [readOf .out]
  | .setUid u0 u1 u2 u3 =>
    [writeOf .uid (u0.setWidth 64 ||| (u1.setWidth 64 <<< 8) ||| (u2.setWidth 64 <<< 16) ||| (u3.setWidth 64 <<< 24))]
  | .checksum16 bs => [preset16Of, writeOf .ctrl 0x110, startOf] ++ bs.map feedOf ++ [readOf .out]

/-! ## Numbers -/

/-- The value of a digit in base 16. -/
def digitValue (c : Char) : Option Nat :=
  if '0' ≤ c ∧ c ≤ '9' then some (c.toNat - 48)
  else if 'a' ≤ c ∧ c ≤ 'f' then some (c.toNat - 87)
  else if 'A' ≤ c ∧ c ≤ 'F' then some (c.toNat - 55)
  else none

/-- Digits in a base; a `_` has no effect (R9). R9 says only that digits may be grouped with `_`: that one may also follow the
last digit or be doubled (`16_`, `1__0`) is the model's choice (DESIGN CHOICE; log 17). -/
def parseDigits (base : Nat) : List Char → Nat → Option Nat
  | [], acc => some acc
  | c :: cs, acc =>
    if c = '_' then parseDigits base cs acc
    else match digitValue c with
      | some d => if d < base then parseDigits base cs (acc * base + d) else none
      | none => none

/-- A decimal or `0x`-prefixed hexadecimal number (R81): at least one digit, and a digit, not a `_`, comes first, also after
`0x`. Both cases of a hexadecimal digit, `0x` in lower case only and leading zeros are accepted (DESIGN CHOICE; log 17). -/
def parseNumber : List Char → Option Nat
  | '0' :: 'x' :: c :: cs => if c = '_' then none else parseDigits 16 (c :: cs) 0
  | c :: cs => if c.isDigit then parseDigits 10 (c :: cs) 0 else none
  | [] => none

/-! ## Tokens -/

/-- A token of a line. -/
inductive Token where
  | name (cs : List Char)
  | number (n : Nat)
  | text (cs : List Char)
  | comma
  | at
  | lbracket
  | rbracket
  deriving DecidableEq, Repr

/-- What the lexer is in the middle of, its characters in reverse. -/
inductive LexState where
  | between
  | inWord (rev : List Char)
  | inText (rev : List Char)
  deriving DecidableEq, Repr

/-- A character of a name or a number. -/
def isWordChar (c : Char) : Bool := c.isAlphanum || c = '_'

/-- The double quote that delimits a text. -/
def quoteChar : Char := Char.ofNat 34

/-- A name or a number from its characters in reverse. -/
def wordToken (rev : List Char) : Option Token :=
  match rev.reverse with
  | [] => none
  | c :: cs => if c.isDigit then (parseNumber (c :: cs)).map .number else some (.name (c :: cs))

/-- A token of one character. -/
def punctToken (c : Char) : Option Token :=
  if c = ',' then some .comma
  else if c = '@' then some .at
  else if c = '[' then some .lbracket
  else if c = ']' then some .rbracket
  else none

/-- The tokens of a line up to its comment; none where a character belongs to no token. R81 is silent on two points that are
settled here (DESIGN CHOICE; log 18): a `;` inside a quoted text is a character of the text and starts no comment, and a
name or number must be followed by a blank before a quoted text, so that `FEEDS"12"` is no line. -/
def lex : List Char → LexState → Option (List Token)
  | [], .between => some []
  | [], .inWord rev => (wordToken rev).map ([·])
  | [], .inText _ => none
  | c :: cs, .inText rev =>
    if c = quoteChar then (lex cs .between).map (Token.text rev.reverse :: ·) else lex cs (.inText (c :: rev))
  | c :: cs, .between =>
    if isWordChar c then lex cs (.inWord [c])
    else if c = ';' then some []
    else if c = ' ' ∨ c = '\t' then lex cs .between
    else if c = quoteChar then lex cs (.inText [])
    else match punctToken c with
      | some t => (lex cs .between).map (t :: ·)
      | none => none
  | c :: cs, .inWord rev =>
    if isWordChar c then lex cs (.inWord (c :: rev))
    else match wordToken rev with
      | none => none
      | some w =>
        if c = ';' then some [w]
        else if c = ' ' ∨ c = '\t' then (lex cs .between).map (w :: ·)
        else match punctToken c with
          | some t => (lex cs .between).map (fun ts => w :: t :: ts)
          | none => none

/-! ## Lines -/

/-- A number that fits a byte. -/
def byteOf (n : Nat) : Option Byte := if n < 256 then some (BitVec.ofNat 8 n) else none

/-- A number that fits a bus word. -/
def wordOf (n : Nat) : Option Word := if n < 2 ^ 64 then some (BitVec.ofNat 64 n) else none

/-- The register of a name in `RD` (R81); KEY has its own form. -/
def readName (cs : List Char) : Option Register :=
  if cs = ['C', 'T', 'R', 'L'] then some .ctrl
  else if cs = ['P', 'O', 'L', 'Y'] then some .poly
  else if cs = ['I', 'N', 'I', 'T'] then some .initVal
  else if cs = ['R', 'E', 'G'] then some .reg
  else if cs = ['O', 'U', 'T'] then some .out
  else if cs = ['S', 'T', 'A', 'T', 'U', 'S'] then some .status
  else if cs = ['U', 'I', 'D'] then some .uid
  else if cs = ['K', 'V', 'A', 'L', 'I', 'D'] then some .kvalid
  else none

/-- The register of a name in `WR` (R81). -/
def writeName (cs : List Char) : Option Register :=
  if cs = ['C', 'T', 'R', 'L'] then some .ctrl
  else if cs = ['P', 'O', 'L', 'Y'] then some .poly
  else if cs = ['I', 'N', 'I', 'T'] then some .initVal
  else if cs = ['U', 'I', 'D'] then some .uid
  else none

/-- The code of a command name without operand (R76, R81). -/
def commandName (cs : List Char) : Option Byte :=
  if cs = ['S', 'T', 'A', 'R', 'T'] then some 0x01
  else if cs = ['P', 'R', 'E', 'S', 'E', 'T', '4', '8'] then some 0x02
  else if cs = ['P', 'R', 'E', 'S', 'E', 'T', '1', '6'] then some 0x03
  else if cs = ['K', 'E', 'Y', 'G', 'E', 'N', '_', 'A', 'L', 'L'] then some 0x05
  else if cs = ['C', 'L', 'R', 'E', 'R', 'R'] then some 0x06
  else none

/-- One or more numbers with commas between them, each a byte. -/
def byteList : List Token → Option ByteString
  | [.number n] => (byteOf n).map ([·])
  | .number n :: .comma :: ts => (byteOf n).bind fun b => (byteList ts).map (b :: ·)
  | _ => none

/-- The ASCII codes of a text. -/
def asciiBytes : List Char → Option ByteString
  | [] => some []
  | c :: cs => if c.toNat < 128 then (asciiBytes cs).map (BitVec.ofNat 8 c.toNat :: ·) else none

/-- The operands of `RD`. -/
def parseRd : List Token → Option AsmLine
  | [.name cs] => (readName cs).map .rd
  | [.name ['K', 'E', 'Y'], .lbracket, .number n, .rbracket] => if h : n < 16 then some (.rd (.key ⟨n, h⟩)) else none
  | [.at, .number n] => (byteOf n).map .rdRaw
  | _ => none

/-- The operands of `WR`. -/
def parseWr : List Token → Option AsmLine
  | [.name cs, .comma, .number v] => (writeName cs).bind fun r => (wordOf v).map (.wr r)
  | [.at, .number n, .comma, .number v] => (byteOf n).bind fun a => (wordOf v).map (.wrRaw a)
  | _ => none

/-- The operands of `CMD`. -/
def parseCmd : List Token → Option AsmLine
  | [.name cs] => (commandName cs).map fun op => .cmd op 0
  | [.name ['K', 'E', 'Y', 'G', 'E', 'N'], .comma, .number n] => (byteOf n).map (.cmd 0x04)
  | _ => none

/-- The operands of `CONFIG`: `(o << 8) | w` must fit a bus word. -/
def parseConfig : List Token → Option AsmLine
  | [.number w, .comma, .number p, .comma, .number i, .comma, .number o] =>
    if o < 2 ^ 56 then
      (wordOf w).bind fun w => (wordOf p).bind fun p => (wordOf i).map fun i => .config w p i (BitVec.ofNat 64 o)
    else none
  | _ => none

/-- The operands of `FEEDS`. -/
def parseFeeds : List Token → Option AsmLine
  | [.text cs] => (asciiBytes cs).map .feeds
  | ts => (byteList ts).map .feeds

/-- The operands of `SETUID`. -/
def parseSetUid (ts : List Token) : Option AsmLine :=
  match byteList ts with
  | some [u0, u1, u2, u3] => some (.setUid u0 u1 u2 u3)
  | _ => none

/-- A line from its tokens. -/
def parseTokens : List Token → Option AsmLine
  | [] => some .blank
  | .name cs :: ts =>
    if cs = ['R', 'D'] then parseRd ts
    else if cs = ['W', 'R'] then parseWr ts
    else if cs = ['F', 'E', 'E', 'D'] then
      match ts with
      | [.number n] => (byteOf n).map .feed
      | _ => none
    else if cs = ['C', 'M', 'D'] then parseCmd ts
    else if cs = ['C', 'O', 'N', 'F', 'I', 'G'] then parseConfig ts
    else if cs = ['F', 'E', 'E', 'D', 'S'] then parseFeeds ts
    else if cs = ['C', 'R', 'C'] then (byteList ts).map .crc
    else if cs = ['S', 'E', 'T', 'U', 'I', 'D'] then parseSetUid ts
    else if cs = ['C', 'H', 'E', 'C', 'K', 'S', 'U', 'M', '1', '6'] then (byteList ts).map .checksum16
    else none
  | _ => none

/-- The transactions a line of text spells; none where it is no line of R81 or R82. -/
def assembleLine (line : List Char) : Option (List Transaction) :=
  ((lex line .between).bind parseTokens).map AsmLine.expand

end Sys2Proof.Machine
end

