-- ==== Sys2Proof/Safety.lean ====
section
/-! DEFINITION. What counts as a legal state and a clean run of CRCN: the machine's invariant, the error a transaction
raises by the priority of spec/60_exceptions.md R195, what a sequence of transactions feeds and keeps (spec/40 R122), and
what the host owes (spec/20 R61, spec/70 R227). -/

namespace Sys2Proof

open Sys2Proof.Machine

/-! ## Bus transactions and runs -/

/-- `BusRead(off)` (R11). -/
def busRead (addr : Byte) (s : State) : Host.Outcome State Fault Refusal := exec (decode ⟨addr, .read⟩) s

/-- `BusWrite(off, v)` (R11). -/
def busWrite (addr : Byte) (v : Word) (s : State) : Host.Outcome State Fault Refusal := exec (decode ⟨addr, .write v⟩) s

/-- `k` steps of CRCN, by the host's own `run`. -/
def runSteps (k : Nat) (s : State) : Host.Outcome State Fault Refusal := Host.Core.run Sys2Proof.core k s

/-- The state in which the host will issue exactly these transactions, in this order. -/
def withRequests (ts : List Transaction) (s : State) : State := { s with pending := ts.map .request }

/-! ## The invariant of every reachable state -/

/-- ERR is set exactly when ERRCODE holds a code other than NONE (R27, R193). -/
def errConsistent (s : State) : Prop := s.err = true ↔ s.errcode ≠ .none

/-- An open stream's register fits its width (R26). -/
def openRegFits (s : State) : Prop := s.active = true → s.reg &&& mask s.ctrlWidth.toNat = s.reg

/-- Every key whose KVALID bit is set is the key of the present UID (R31, R153). -/
def validKeysCurrent (s : State) : Prop := ∀ k : Sector, s.kvalid.getLsbD k.val = true → s.keys[k] = deriveKey s.uid k

/-- What every step keeps: a legal width (R23), a consistent error status, a register that fits, current valid keys. -/
structure Inv (s : State) : Prop where
  width : legalWidth s.ctrlWidth = true
  error : errConsistent s
  reg : openRegFits s
  keys : validKeysCurrent s

/-! ## The error a transaction raises -/

/-- The checks of a CMD word after the direction, in the order of R76 and R195. -/
def cmdError (v : Word) : ErrCode :=
  if v.extractLsb' 16 48 ≠ 0 then .rsvd
  else if v.extractLsb' 0 8 ∉ commandCodes then .badCmd
  else if v.extractLsb' 0 8 = 0x04#8 then (if 15 < (v.extractLsb' 8 8).toNat then .badSector else .none)
  else if v.extractLsb' 8 8 ≠ 0 then .rsvd
  else .none

/-- The checks of a write word of register `r` after the direction (R195 steps 4 to 6). -/
def writeError (r : Register) (v : Word) (s : State) : ErrCode :=
  match r with
  | .ctrl =>
    if v.extractLsb' 7 1 ≠ 0 ∨ v.extractLsb' 9 55 ≠ 0 then .rsvd
    else if v.extractLsb' 0 7 ∉ legalWidths then .badWidth else .none
  | .data => if v.extractLsb' 8 56 ≠ 0 then .rsvd else if s.active then .none else .notActive
  | .cmd => cmdError v
  | .uid => if v.extractLsb' 32 32 ≠ 0 then .rsvd else .none
  | .poly | .initVal | .reg | .out | .status | .kvalid | .key _ => .none

/-- The one error a transaction raises, NONE where it is accepted: the first check that fails in the order of R195,
written over the raw transaction and the register map, not over the decoder or a meaning. -/
def transactionError (t : Transaction) (s : State) : ErrCode :=
  if t.addr.toNat % 8 ≠ 0 then .badAddr
  else match registerAt t.addr with
    | none => .badAddr
    | some r => match t.access with
      | .read => if r.hostAccess = .writeOnly then .badAccess else .none
      | .write v => if r.hostAccess = .readOnly then .badAccess else writeError r v s

/-- The word a refused transaction answers with: 0 for a read, no data for a write (R194). -/
def refusedResponse : Access → Response
  | .read => .data 0
  | .write _ => .done

/-- The state after a refused transaction: ERR is set, ERRCODE holds the first error (R193), everything else is as it was
(R194). -/
def refused (c : ErrCode) (access : Access) (s : State) : State :=
  { s with err := true, errcode := if s.err then s.errcode else c, response := some (refusedResponse access) }

/-! ## Reset -/

/-- Every element of R20 is at its value of R35. -/
structure AtResetValues (s : State) : Prop where
  ctrlWidth : s.ctrlWidth = 16
  ctrlOrder : s.ctrlOrder = .big
  poly : s.poly = 0x0000000000001021
  initVal : s.initVal = 0x000000000000FFFF
  reg : s.reg = 0
  active : s.active = false
  err : s.err = false
  errcode : s.errcode.toBits = 0
  uid : s.uid = 0
  kvalid : s.kvalid = 0
  keys : ∀ k : Sector, s.keys[k] = 0

/-! ## The arithmetic on unbounded naturals, as the spec's pseudocode has it (R8, R9, R101 to R103) -/

/-- `mask(w) = 2^w - 1` (R8). -/
def natMask (w : Nat) : Nat := 2 ^ w - 1

/-- `round(w, poly, r)` (R103). -/
def natRound (w poly r : Nat) : Nat :=
  if r.testBit (w - 1) then ((r <<< 1) ^^^ poly) &&& natMask w else (r <<< 1) &&& natMask w

/-- `k` rounds. -/
def natRounds (w poly : Nat) : Nat → Nat → Nat
  | 0, r => r
  | k + 1, r => natRounds w poly k (natRound w poly r)

/-- `feed_byte(w, poly, r, b)` (R102). -/
def natFeedByte (w poly r b : Nat) : Nat := natRounds w poly 8 (r ^^^ (b <<< (w - 8)))

/-- `crc_reg(w, poly, init, s)` (R101). -/
def natCrcReg (w poly initVal : Nat) (s : List Nat) : Nat := s.foldl (natFeedByte w poly) (initVal &&& natMask w)

/-! ## Streams -/

/-- A transaction that leaves an open stream alone: it writes neither REG, CTRL, POLY, INIT nor ACTIVE (R122). -/
def streamNeutral : Instr → Bool
  | .rdCtrl | .rdPoly | .rdInit | .rdReg | .rdOut | .rdStatus | .rdUid | .rdKvalid | .rdKey _ => true
  | .wrUid _ _ | .cmdKeygen _ _ | .cmdKeygenAll _ _ | .cmdClrerr _ _ => true
  | .errMisaligned _ _ | .errUnmapped _ _ | .errWrRo _ _ | .errRdWo _ | .errCmdUnknown _ _ _ => true
  | .wrCtrl _ _ _ _ | .wrPoly _ | .wrInit _ | .feed _ _ | .cmdStart _ _ | .cmdPreset48 _ _ | .cmdPreset16 _ _ => false

/-- An accepted FEED, or an operation that leaves the stream alone. -/
def streamOperation : Instr → Bool
  | .feed _ rsv => rsv == 0
  | i => streamNeutral i

/-- The byte an operation feeds, if it is a FEED. -/
def fedByte : Instr → Option Byte
  | .feed b _ => some b
  | _ => none

/-- The bytes a sequence of transactions feeds, in order. -/
def fedBytes (ts : List Transaction) : ByteString := ts.filterMap fun t => fedByte (decode t)

/-! ## Which event may write what (R23, R26, R27, R30, R31, R32) -/

/-- The event is a reset. -/
def isReset : HostEvent → Bool
  | .request _ => false
  | .reset | .resetWithRequest _ => true

/-- The state's next event is a reset. -/
def resetsNext (s : State) : Prop := ∃ e rest, s.pending = e :: rest ∧ isReset e = true

/-- The state's next event is a transaction with one of these mnemonics that raises no error. -/
def acceptsNext (ms : List Mnemonic) (s : State) : Prop :=
  ∃ t rest, s.pending = .request t :: rest ∧ (decode t).mnemonic ∈ ms ∧ transactionError t s = .none

/-- The state's next event is a FEED refused for its reserved field. -/
def refusesFeedNext (s : State) : Prop :=
  ∃ t rest, s.pending = .request t :: rest ∧ (decode t).mnemonic = .FEED ∧ transactionError t s = .rsvd

/-! ## What the host owes -/

/-- A run is clean when no error is recorded at its end; after a CLRERR, the error belongs to the run (R222, R228). -/
def clean (s : State) : Prop := s.err = false

/-- The checksum kinds whose byte range holds the stored checksum of the next higher kind: 1, 2 and 3 (R227; C3). -/
def checksumDependsOnNext (kind : Fin 5) : Bool := kind == 1 || kind == 2 || kind == 3

/-- The order in which the host computes and stores the chained checksums (R227). -/
def checksumOrder : List (Fin 5) := [4, 3, 2, 1]

/-- A host's order of checksum kinds is right when no chained kind comes before the kind it depends on (R227). CRCN cannot
check this: it does not know the ranges (R4, D28). -/
def checksumOrderKept : List (Fin 5) → Bool
  | [] => true
  | kind :: rest => !(checksumDependsOnNext kind && rest.any (fun later => later.val == kind.val + 1)) && checksumOrderKept rest

end Sys2Proof
end

