-- ==== Sys2Proof/Certificates/Slice0/Obligations.lean ====
section
/-! DEFINITION. The statements for the provers. A statement of the form "exec i s = .next t" with t written as an update of
s is a result, a completion and a frame in one: every field of State that the update does not name is unchanged. -/

open Sys2Proof Sys2Proof.Machine

/-! ## Encoding -/

/-- Decoding the transaction of a well-formed operation gives the operation back (R70 to R77, R80). That the illegal accesses
carry operands at all is the model's choice (DESIGN CHOICE, log 12). -/
def Obligations.DecodeOfEncodeIsIdentity : Prop :=
  ∀ i : Instr, wellFormed i = true → decode (encode i) = i

/-- Every transaction is exactly one well-formed operation (R72), and encoding that operation gives the transaction back. THE
MODEL'S OWN, not the spec's: for the illegal accesses the second clause holds only because the model keeps the offset or
register and the written word as operands (DESIGN CHOICE, log 12), where R184 and R185 say "Operands: none". -/
def Obligations.EncodeOfDecodeIsIdentity : Prop :=
  ∀ t : Transaction, wellFormed (decode t) = true ∧ encode (decode t) = t

/-- R71: the decode key, and the opcode table's first matching row, which exists for every key and names the operation of
the decoder whatever `wdata[63:8]` holds. -/
def Obligations.TableFirstMatchNamesDecodedOperation : Prop :=
  (∀ k : BitVec 17, ∃ m, tableMnemonic k = some m) ∧
  (∀ addr : Byte, (Transaction.key ⟨addr, .read⟩).toNat = addr.toNat <<< 8) ∧
  (∀ (addr : Byte) (v : Word),
    (Transaction.key ⟨addr, .write v⟩).toNat = (1 <<< 16) ||| (addr.toNat <<< 8) ||| (v.toNat % 256)) ∧
  (∀ t : Transaction, tableMnemonic t.key = some (decode t).mnemonic)

/-- A few transactions written out from the spec's encodings decode to the operations they stand for. The operands of the
misaligned write are the model's choice (DESIGN CHOICE, log 12). -/
def Obligations.WrittenEncodingsDecode : Prop :=
  decode ⟨0x28, .write 0x0000000000000001⟩ = .cmdStart 0 0 ∧
  decode ⟨0x28, .write 0x0000000000000002⟩ = .cmdPreset48 0 0 ∧
  decode ⟨0x28, .write 0x0000000000000003⟩ = .cmdPreset16 0 0 ∧
  decode ⟨0x28, .write 0x0000000000001004⟩ = .cmdKeygen 0x10 0 ∧
  decode ⟨0x28, .write 0x0000000000000005⟩ = .cmdKeygenAll 0 0 ∧
  decode ⟨0x28, .write 0x0000000000000006⟩ = .cmdClrerr 0 0 ∧
  decode ⟨0x28, .write 0x0000000000010007⟩ = .errCmdUnknown 0x07 0 1 ∧
  decode ⟨0x00, .write 0x0000000000000130⟩ = .wrCtrl 48 0 .little 0 ∧
  decode ⟨0x20, .write 0x0000000000000131⟩ = .feed 0x31 1 ∧
  decode ⟨0xF8, .read⟩ = .rdKey 15 ∧
  decode ⟨0x21, .write 0x31⟩ = .errMisaligned 0x21 (.write 0x31)

/-- The byte image of the model (DESIGN CHOICE, log 9) loses nothing, and bytes that are no transaction are refused. -/
def Obligations.ByteImageRoundTrips : Prop :=
  (∀ i : Instr, wellFormed i = true → decodeBytes (encodeBytes i) = .ok i) ∧
  (∀ bs : List Byte, bs.length ≠ 10 → decodeBytes bs = .error .wrongLength)

/-! ## Steps, reset and the invariant -/

/-- A step performs the operation that the host's next transaction decodes to, at the state without that transaction. -/
def Obligations.StepRunsDecodedTransaction : Prop :=
  ∀ (s : State) (t : Transaction) (rest : List HostEvent), s.pending = .request t :: rest →
    step s = exec (decode t) { s with pending := rest }

/-- With nothing from the host, a step keeps the state (the model's deduction, log 2). -/
def Obligations.StepWithNothingPendingKeepsState : Prop :=
  ∀ s : State, s.pending = [] → step s = .next s

/-- CRCN never stops: from every state a step answers a next state. The spec says so of transactions (D21) and of errors (R190);
that an error is a next state and never a fault is DEDUCED from R190 (log 13). THE MODEL'S OWN, not the spec's: that a step
answers a next state also with nothing pending (DEDUCED, log 2). -/
def Obligations.StepAlwaysAnswersNext : Prop := ∀ s : State, ∃ s', step s = .next s'

/-- R35: the reset state, and the state after any step that resets, hold the reset value of every element. -/
def Obligations.ResetGivesResetValues : Prop :=
  AtResetValues State.reset ∧
  ∀ s : State, resetsNext s → ∃ s', step s = .next s' ∧ AtResetValues s'

/-- R220 and X9: a transaction that meets reset has no effect on the elements of R20, which are as after a reset alone; a read
then answers a word, on which nothing is stated. The response of a write and the host's later events are the model's (logs 1,
3, 4). -/
def Obligations.ResetWinsOverTransaction : Prop :=
  ∀ (s : State) (t : Transaction) (rest : List HostEvent), s.pending = .resetWithRequest t :: rest →
    ∃ s' s'' : State, step s = .next s' ∧ step { s with pending := .reset :: rest } = .next s'' ∧
      s' = { s'' with response := s'.response, draws := s'.draws } ∧ s'.pending = rest ∧
      (t.access = .read → ∃ w, s'.response = some (.data w)) ∧
      (∀ v, t.access = .write v → s'.response = some .done)

/-- The reset state meets the invariant. -/
def Obligations.ResetMeetsInvariant : Prop := Inv State.reset

/-- Every step keeps the invariant: the width stays legal (R23), ERR and ERRCODE agree (R193), an open stream's register
fits its width (R26), and a key whose KVALID bit is set is the key of the present UID (R31, R153). -/
def Obligations.StepKeepsInvariant : Prop :=
  ∀ s s' : State, Inv s → step s = .next s' → Inv s'

/-! ## What each operation does: completion, result and frame, by constructor -/

/-- The nine reads answer the word of their register and change nothing else (R111, R113, R115, R118, R119, R155, R158,
R159, R180). -/
def Obligations.ReadsAnswerTheirRegister : Prop :=
  ∀ s : State,
    (∃ w : Word, exec .rdCtrl s = .next { s with response := some (.data w) } ∧
      w.toNat = s.ctrlOrder.toBit.toNat * 256 + s.ctrlWidth.toNat) ∧
    exec .rdPoly s = .next { s with response := some (.data s.poly) } ∧
    exec .rdInit s = .next { s with response := some (.data s.initVal) } ∧
    exec .rdReg s = .next { s with response := some (.data s.reg) } ∧
    exec .rdOut s =
      .next { s with response := some (.data (pack (serialize s.ctrlWidth.toNat s.ctrlOrder s.reg))) } ∧
    (∃ w : Word, exec .rdStatus s = .next { s with response := some (.data w) } ∧
      w.toNat = s.errcode.toBits.toNat * 16 + s.err.toNat * 2 + s.active.toNat) ∧
    (∃ w : Word, exec .rdUid s = .next { s with response := some (.data w) } ∧ w.toNat = s.uid.toNat) ∧
    (∃ w : Word, exec .rdKvalid s = .next { s with response := some (.data w) } ∧ w.toNat = s.kvalid.toNat) ∧
    (∀ k : Sector, ∃ w : Word,
      exec (.rdKey k) s = .next { s with response := some (.data w) } ∧ w.toNat = (s.keys[k]).toNat)

/-- WR_CTRL with a legal width and zero reserved bits, WR_POLY, WR_INIT and the presets with a zero ARG and reserved field
write what their rules say and close the stream; ORDER and REG are kept by the presets (R110, R112, R114, R120, R121). -/
def Obligations.ConfigurationOperationsComplete : Prop :=
  ∀ s : State,
    (∀ (w : BitVec 7) (o : ByteOrder), w ∈ legalWidths →
      exec (.wrCtrl w 0 o 0) s =
        .next { s with ctrlWidth := w, ctrlOrder := o, active := false, response := some .done }) ∧
    (∀ v : Word, exec (.wrPoly v) s = .next { s with poly := v, active := false, response := some .done }) ∧
    (∀ v : Word, exec (.wrInit v) s = .next { s with initVal := v, active := false, response := some .done }) ∧
    exec (.cmdPreset48 0 0) s =
      .next { s with
        ctrlWidth := 48, poly := Config.crc48Poly, initVal := Config.crc48Init, active := false,
        response := some .done } ∧
    exec (.cmdPreset16 0 0) s =
      .next { s with
        ctrlWidth := 16, poly := 0x1021, initVal := 0xFFFF, active := false, response := some .done }

/-- CMD_START loads INIT masked to the width and opens the stream; FEED on an open stream performs one byte step
(R116, R117). -/
def Obligations.StreamOperationsComplete : Prop :=
  ∀ s : State,
    exec (.cmdStart 0 0) s =
      .next { s with
        reg := s.initVal &&& mask s.ctrlWidth.toNat, active := true, response := some .done } ∧
    (∀ b : Byte, s.active = true →
      exec (.feed b 0) s =
        .next { s with reg := feedByte s.ctrlWidth.toNat s.poly s.reg b, response := some .done })

/-- WR_UID with a zero reserved field stores the UID and clears KVALID and keeps the keys; CMD_KEYGEN of a sector 0 to 15
writes that sector's key and its KVALID bit; CMD_KEYGEN_ALL writes every key and sets KVALID to 0xFFFF (R154, R156,
R157). -/
def Obligations.KeyOperationsComplete : Prop :=
  ∀ s : State,
    (∀ u : BitVec 32, exec (.wrUid u 0) s = .next { s with uid := u, kvalid := 0, response := some .done }) ∧
    (∀ (arg : Byte) (k : Sector), arg.toNat = k.val →
      ∃ t : State, exec (.cmdKeygen arg 0) s = .next t ∧
        t = { s with keys := t.keys, kvalid := t.kvalid, response := some .done } ∧
        t.keys[k] = deriveKey s.uid k ∧ t.kvalid.getLsbD k.val = true ∧
        (∀ j : Sector, j ≠ k → t.keys[j] = s.keys[j] ∧ t.kvalid.getLsbD j.val = s.kvalid.getLsbD j.val)) ∧
    (∃ t : State, exec (.cmdKeygenAll 0 0) s = .next t ∧
      t = { s with keys := t.keys, kvalid := 0xFFFF, response := some .done } ∧
      (∀ j : Sector, t.keys[j] = deriveKey s.uid j))

/-- CMD_CLRERR with a zero ARG and reserved field clears ERR and ERRCODE and leaves ACTIVE and all else alone (R181). -/
def Obligations.ClearErrorCompletes : Prop :=
  ∀ s : State, ∃ t : State,
    exec (.cmdClrerr 0 0) s = .next t ∧ t = { s with err := false, errcode := t.errcode, response := some .done } ∧
      t.errcode.toBits = 0

/-- The illegal operations record their code and change nothing else; a read answers 0 (R184, R185, R186). -/
def Obligations.IllegalOperationsRecordTheirCode : Prop :=
  ∀ s : State,
    (∀ (addr : Byte) (a : Access), exec (.errMisaligned addr a) s = .next (refused .badAddr a s)) ∧
    (∀ (addr : Byte) (a : Access), exec (.errUnmapped addr a) s = .next (refused .badAddr a s)) ∧
    (∀ (r : Register) (v : Word), exec (.errWrRo r v) s = .next (refused .badAccess (.write v) s)) ∧
    (∀ r : Register, exec (.errRdWo r) s = .next (refused .badAccess .read s)) ∧
    (∀ (op arg : Byte) (v : Word), exec (.errCmdUnknown op arg 0) s = .next (refused .badCmd (.write v) s)) ∧
    (∀ (op arg : Byte) (rsv : BitVec 48) (v : Word), rsv ≠ 0 →
      exec (.errCmdUnknown op arg rsv) s = .next (refused .rsvd (.write v) s))

/-! ## What each bus transaction does, over every bus word -/

/-- R110: a write of CTRL, for every word. -/
def Obligations.BusWriteOfCtrl : Prop :=
  ∀ (v : Word) (s : State),
    ((v.getLsbD 7 = true ∨ v.toNat / 2 ^ 9 ≠ 0) → busWrite 0x00 v s = .next (refused .rsvd (.write v) s)) ∧
    (v.getLsbD 7 = false → v.toNat / 2 ^ 9 = 0 → v.toNat % 128 ∉ [8, 16, 24, 32, 40, 48, 56, 64] →
      busWrite 0x00 v s = .next (refused .badWidth (.write v) s)) ∧
    (v.getLsbD 7 = false → v.toNat / 2 ^ 9 = 0 → v.toNat % 128 ∈ [8, 16, 24, 32, 40, 48, 56, 64] →
      busWrite 0x00 v s = .next { s with
        ctrlWidth := v.extractLsb' 0 7, ctrlOrder := if v.getLsbD 8 then .little else .big, active := false,
        response := some .done })

/-- R112 and R114: a write of POLY or INIT stores all 64 bits of every word and closes the stream. -/
def Obligations.BusWriteOfPolyAndInit : Prop :=
  ∀ (v : Word) (s : State),
    busWrite 0x08 v s = .next { s with poly := v, active := false, response := some .done } ∧
    busWrite 0x10 v s = .next { s with initVal := v, active := false, response := some .done }

/-- R117: a write of DATA, for every word. -/
def Obligations.BusWriteOfData : Prop :=
  ∀ (v : Word) (s : State),
    (256 ≤ v.toNat →
      busWrite 0x20 v s = .next { refused .rsvd (.write v) s with active := false }) ∧
    (v.toNat < 256 → s.active = false → busWrite 0x20 v s = .next (refused .notActive (.write v) s)) ∧
    (v.toNat < 256 → s.active = true →
      busWrite 0x20 v s = .next { s with
        reg := feedByte s.ctrlWidth.toNat s.poly s.reg (BitVec.ofNat 8 v.toNat), response := some .done })

/-- The checks of a CMD word in the order of R76: reserved field, opcode, ARG of a command without operand, sector. -/
def Obligations.BusWriteOfCmdChecksInOrder : Prop :=
  ∀ (op arg : Byte) (rsv : BitVec 48) (s : State),
    (rsv ≠ 0 → busWrite 0x28 (rsv ++ arg ++ op) s = .next (refused .rsvd (.write 0) s)) ∧
    (rsv = 0 → (op.toNat = 0 ∨ 6 < op.toNat) →
      busWrite 0x28 (rsv ++ arg ++ op) s = .next (refused .badCmd (.write 0) s)) ∧
    (rsv = 0 → 1 ≤ op.toNat → op.toNat ≤ 6 → op.toNat ≠ 4 → arg ≠ 0 →
      busWrite 0x28 (rsv ++ arg ++ op) s = .next (refused .rsvd (.write 0) s)) ∧
    (rsv = 0 → op.toNat = 4 → 15 < arg.toNat →
      busWrite 0x28 (rsv ++ arg ++ op) s = .next (refused .badSector (.write 0) s))

/-- R154: a write of UID, for every word. -/
def Obligations.BusWriteOfUid : Prop :=
  ∀ (v : Word) (s : State),
    (2 ^ 32 ≤ v.toNat → busWrite 0x40 v s = .next (refused .rsvd (.write v) s)) ∧
    (v.toNat < 2 ^ 32 →
      busWrite 0x40 v s = .next { s with uid := BitVec.ofNat 32 v.toNat, kvalid := 0, response := some .done })

/-- R55: an accepted read changes no state; a read of DATA or CMD, at an unmapped or at a misaligned offset changes only
the error status and answers 0. The offsets are spelled out. -/
def Obligations.ReadsChangeOnlyErrorStatus : Prop :=
  ∀ (addr : Byte) (s : State),
    ((addr.toNat % 8 ≠ 0 ∨ (0x50 ≤ addr.toNat ∧ addr.toNat ≤ 0x7F)) →
      busRead addr s = .next (refused .badAddr .read s)) ∧
    ((addr.toNat = 0x20 ∨ addr.toNat = 0x28) → busRead addr s = .next (refused .badAccess .read s)) ∧
    ((addr.toNat % 8 = 0 ∧ addr.toNat ≠ 0x20 ∧ addr.toNat ≠ 0x28 ∧ (addr.toNat < 0x50 ∨ 0x80 ≤ addr.toNat)) →
      ∃ w : Word, busRead addr s = .next { s with response := some (.data w) })

/-- A write of a read-only register, whatever the word, records BAD_ACCESS and changes nothing else (R37, R184); a write at
a misaligned or unmapped offset records BAD_ADDR (R185). -/
def Obligations.IllegalWritesRecordTheirCode : Prop :=
  ∀ (addr : Byte) (v : Word) (s : State),
    ((addr.toNat % 8 ≠ 0 ∨ (0x50 ≤ addr.toNat ∧ addr.toNat ≤ 0x7F)) →
      busWrite addr v s = .next (refused .badAddr (.write v) s)) ∧
    ((addr.toNat % 8 = 0 ∧
        (addr.toNat = 0x18 ∨ addr.toNat = 0x30 ∨ addr.toNat = 0x38 ∨ addr.toNat = 0x48 ∨ 0x80 ≤ addr.toNat)) →
      busWrite addr v s = .next (refused .badAccess (.write v) s))

/-- An accepted write to CTRL, POLY, INIT or UID is idempotent (R56). -/
def Obligations.RegisterWritesAreIdempotent : Prop :=
  ∀ (addr : Byte) (v : Word) (s t : State), addr ∈ [0x00#8, 0x08#8, 0x10#8, 0x40#8] →
    transactionError ⟨addr, .write v⟩ s = .none →
    busWrite addr v s = .next t → busWrite addr v t = .next t

/-! ## Errors -/

/-- R193, R194 and R195: a transaction that raises an error, by the first failing check of R195, records it by R193 and
changes nothing else, except that a FEED refused for a reserved field also closes the stream; a refused read answers 0. -/
def Obligations.RefusedTransactionOnlyRecordsFirstError : Prop :=
  ∀ (t : Transaction) (s : State), transactionError t s ≠ .none →
    exec (decode t) s = .next { refused (transactionError t s) t.access s with
      active := if (decode t).mnemonic = .FEED ∧ transactionError t s = .rsvd then false else s.active }

/-- An accepted transaction records no error: the error status is unchanged, except by CMD_CLRERR, which clears it. -/
def Obligations.AcceptedTransactionRecordsNoError : Prop :=
  ∀ (t : Transaction) (s : State), transactionError t s = .none →
    ∃ s' : State, exec (decode t) s = .next s' ∧
      ((decode t).mnemonic ≠ .CMD_CLRERR → s'.err = s.err ∧ s'.errcode = s.errcode) ∧
      ((decode t).mnemonic = .CMD_CLRERR → s'.err = false ∧ s'.errcode = .none)

/-- While ERR is set, no run without a reset and without an accepted CLRERR changes ERR or ERRCODE: the first error is kept
(R193, R197, R228). -/
def Obligations.FirstErrorIsKept : Prop :=
  ∀ (ts : List Transaction) (s s' : State), s.err = true →
    (∀ t ∈ ts, (decode t).mnemonic = .CMD_CLRERR → transactionError t s ≠ .none) →
    runSteps ts.length (withRequests ts s) = .next s' →
    s'.err = true ∧ s'.errcode = s.errcode

/-! ## Which operation may write what: rules over every step -/

/-- ACTIVE is set by an accepted CMD_START alone and cleared only by an accepted configuration write, a preset, a FEED
refused for its reserved field, or reset (R27, R36). -/
def Obligations.OnlyListedOperationsChangeActive : Prop :=
  ∀ s s' : State, step s = .next s' → s'.active ≠ s.active →
    (s'.active = true ∧ acceptsNext [.CMD_START] s) ∨
    (s'.active = false ∧
      (resetsNext s ∨ refusesFeedNext s ∨
        acceptsNext [.WR_CTRL, .WR_POLY, .WR_INIT, .CMD_PRESET48, .CMD_PRESET16] s))

/-- REG is written by an accepted START, an accepted FEED and reset alone, and an accepted START or FEED leaves it below
2^w (R26). -/
def Obligations.OnlyStartFeedAndResetWriteReg : Prop :=
  (∀ s s' : State, step s = .next s' → s'.reg ≠ s.reg → resetsNext s ∨ acceptsNext [.CMD_START, .FEED] s) ∧
  (∀ s s' : State, legalWidth s.ctrlWidth = true → acceptsNext [.CMD_START, .FEED] s → step s = .next s' →
    s'.reg.toNat < 2 ^ s.ctrlWidth.toNat ∧ s'.ctrlWidth = s.ctrlWidth)

/-- CTRL, POLY and INIT are written by their own accepted writes, the presets and reset alone, and no preset writes ORDER
(R23, R24, R25, R120, R121). -/
def Obligations.OnlyListedOperationsWriteConfiguration : Prop :=
  ∀ s s' : State, step s = .next s' → ¬ resetsNext s →
    (s'.ctrlWidth ≠ s.ctrlWidth → acceptsNext [.WR_CTRL, .CMD_PRESET48, .CMD_PRESET16] s) ∧
    (s'.ctrlOrder ≠ s.ctrlOrder → acceptsNext [.WR_CTRL] s) ∧
    (s'.poly ≠ s.poly → acceptsNext [.WR_POLY, .CMD_PRESET48, .CMD_PRESET16] s) ∧
    (s'.initVal ≠ s.initVal → acceptsNext [.WR_INIT, .CMD_PRESET48, .CMD_PRESET16] s)

/-- UID is written by an accepted WR_UID and reset alone, which leaves every KEY as it was; KEY is written by the accepted
key commands and reset alone (R30, R32, R154, R226). -/
def Obligations.OnlyListedOperationsWriteUidAndKeys : Prop :=
  ∀ s s' : State, step s = .next s' → ¬ resetsNext s →
    (s'.uid ≠ s.uid → acceptsNext [.WR_UID] s ∧ s'.keys = s.keys ∧ s'.kvalid = 0) ∧
    (s'.keys ≠ s.keys → acceptsNext [.CMD_KEYGEN, .CMD_KEYGEN_ALL] s)

/-- R31, one step at a time: after a step, KVALID bit k is 1 exactly when the step was an accepted KEYGEN of k or an
accepted KEYGEN_ALL, or the bit was 1 and the step was neither an accepted UID write nor a reset. -/
def Obligations.KvalidBitIsSetExactlyByKeygen : Prop :=
  ∀ (s s' : State) (e : HostEvent) (rest : List HostEvent) (k : Sector), s.pending = e :: rest → step s = .next s' →
    (s'.kvalid.getLsbD k.val = true ↔
      (∃ t, e = .request t ∧ transactionError t s = .none ∧
        ((∃ arg rsv, decode t = .cmdKeygen arg rsv ∧ arg.toNat = k.val) ∨ (decode t).mnemonic = .CMD_KEYGEN_ALL)) ∨
      (s.kvalid.getLsbD k.val = true ∧ isReset e = false ∧
        ¬ ∃ t, e = .request t ∧ transactionError t s = .none ∧ (decode t).mnemonic = .WR_UID))

/-! ## The CRC arithmetic -/

/-- R101, R102 and R103: at every legal width, the engine's register is the one the spec's pseudocode computes on unbounded
naturals. -/
def Obligations.CrcRegisterFollowsUnboundedPseudocode : Prop :=
  ∀ (w : BitVec 7) (poly initVal : Word) (s : ByteString), w ∈ legalWidths →
    (crcReg w.toNat poly initVal s).toNat = natCrcReg w.toNat poly.toNat initVal.toNat (s.map BitVec.toNat)

/-- R104: the serialized string has w/8 bytes; byte i is the i-th byte from the top for order 0 and from the bottom for
order 1 of the register masked to the width. -/
def Obligations.SerializationFollowsByteOrder : Prop :=
  ∀ (w : BitVec 7) (r : Word), w ∈ legalWidths →
    (serialize w.toNat .big r).map BitVec.toNat =
      (List.range (w.toNat / 8)).map
        (fun i => (r.toNat % 2 ^ w.toNat) / 256 ^ (w.toNat / 8 - 1 - i) % 256) ∧
    (serialize w.toNat .little r).map BitVec.toNat =
      (List.range (w.toNat / 8)).map (fun i => (r.toNat % 2 ^ w.toNat) / 256 ^ i % 256)

/-- `swap(BE_n(v)) = LE_n(v)` (R10), `pack(LE_n(v)) = v & mask(8n)` and `unpack_n(pack(s)) = s` for strings of at most 8
bytes (R12), so the source's compute, swapped, is the order-1 serialization (R105). -/
def Obligations.SwapAndPackIdentities : Prop :=
  (∀ (n : Nat) (v : Word), swap (beBytes n v) = leBytes n v) ∧
  (∀ (n : Nat) (v : Word), n ≤ 8 → pack (leBytes n v) = v &&& mask (8 * n)) ∧
  (∀ s : ByteString, s.length ≤ 8 → unpack s.length (pack s) = s) ∧
  (∀ (spec : CrcSpec) (input : ByteString), swap (compute spec input) =
    serialize spec.width.toNat .little (crcReg spec.width.toNat spec.poly spec.initVal input))

/-- R106: the register is the only state carried between bytes, and an empty input gives `init & mask(w)`. -/
def Obligations.CrcComposesOverConcatenation : Prop :=
  ∀ (w : BitVec 7) (poly initVal : Word) (s t : ByteString), w ∈ legalWidths →
    crcReg w.toNat poly initVal (s ++ t) = t.foldl (feedByte w.toNat poly) (crcReg w.toNat poly initVal s) ∧
    crcReg w.toNat poly initVal [] = initVal &&& mask w.toNat

/-- R107: bits of the polynomial and the initial value at the width and above have no effect. -/
def Obligations.HighBitsHaveNoEffect : Prop :=
  ∀ (w : BitVec 7) (poly initVal : Word) (s : ByteString), w ∈ legalWidths →
    crcReg w.toNat poly initVal s = crcReg w.toNat (poly &&& mask w.toNat) (initVal &&& mask w.toNat) s

/-- R108: the CRC is linear over GF(2), and zeros from a zero register give zero. -/
def Obligations.CrcIsLinear : Prop :=
  ∀ (w : BitVec 7) (p : Word), w ∈ legalWidths →
    (∀ (i1 i2 : Word) (s1 s2 : ByteString), s1.length = s2.length →
      crcReg w.toNat p (i1 ^^^ i2) (List.zipWith (· ^^^ ·) s1 s2) =
        crcReg w.toNat p i1 s1 ^^^ crcReg w.toNat p i2 s2) ∧
    (∀ n : Nat, crcReg w.toNat p 0 (List.replicate n 0) = 0)

/-- With a zero polynomial the input has no effect: the register is shifted by eight places a byte (R109). -/
def Obligations.ZeroPolynomialOnlyShifts : Prop :=
  ∀ (w : BitVec 7) (poly initVal : Word) (s : ByteString), w ∈ legalWidths → poly &&& mask w.toNat = 0 →
    crcReg w.toNat poly initVal s = ((initVal &&& mask w.toNat) <<< (8 * s.length)) &&& mask w.toNat

/-- OUT with order 1 is numerically `REG & mask(WIDTH)`; with order 0 its bytes are those of order 1 reversed within WIDTH/8
bytes; bits at WIDTH and above are 0 (R28, R119). -/
def Obligations.OutWordFollowsOrder : Prop :=
  ∀ s : State, legalWidth s.ctrlWidth = true →
    (s.ctrlOrder = .little → s.outWord = s.reg &&& mask s.ctrlWidth.toNat) ∧
    (s.ctrlOrder = .big →
      unpack (s.ctrlWidth.toNat / 8) s.outWord =
        (unpack (s.ctrlWidth.toNat / 8) (s.reg &&& mask s.ctrlWidth.toNat)).reverse) ∧
    s.outWord &&& mask s.ctrlWidth.toNat = s.outWord

/-- R153 with R150 and R151: for sectors 1 to 15 the key word is the final CRC48 register of the message u0, u1, u2, u3, s,
for every value of the OPEN parameters; for sector 0 it is the packed constant, whatever the UID. -/
def Obligations.KeyWordIsFinalCrcRegister : Prop :=
  ∀ (p i : Word) (key0 : ByteString) (uid : BitVec 32) (k : Sector),
    (k ≠ 0 → (packedKey p i key0 uid k).setWidth 64 =
      crcReg 48 p i [uid.extractLsb' 0 8, uid.extractLsb' 8 8, uid.extractLsb' 16 8, uid.extractLsb' 24 8,
        BitVec.ofNat 8 k.val]) ∧
    (k = 0 → packedKey p i key0 uid k = (pack key0).setWidth 48)

/-! ## Sequences of transactions -/

/-- R122: while a stream is open the configuration does not change; and a START, then any FEEDs, with operations that do
not touch the stream between them, leave REG at `crc_reg` of the bytes fed, and a read of OUT then answers its
serialization, which for order 0 is the source's `compute`. -/
def Obligations.StreamComputesCrcOfFedBytes : Prop :=
  (∀ s s' : State, step s = .next s' → s.active = true → s'.active = true →
    s'.ctrlWidth = s.ctrlWidth ∧ s'.poly = s.poly ∧ s'.initVal = s.initVal) ∧
  (∀ (s : State) (ts : List Transaction), (∀ t ∈ ts, streamOperation (decode t) = true) →
    ∃ s' : State, runSteps (ts.length + 1) (withRequests (⟨0x28, .write 0x1⟩ :: ts) s) = .next s' ∧
      s'.active = true ∧ s'.ctrlWidth = s.ctrlWidth ∧ s'.ctrlOrder = s.ctrlOrder ∧ s'.poly = s.poly ∧
      s'.initVal = s.initVal ∧
      s'.reg = crcReg s.ctrlWidth.toNat s.poly s.initVal (fedBytes ts) ∧
      busRead 0x30 s' = .next { s' with response := some (.data (pack (serialize s.ctrlWidth.toNat s.ctrlOrder
        (crcReg s.ctrlWidth.toNat s.poly s.initVal (fedBytes ts))))) } ∧
      (s.ctrlOrder = .big → busRead 0x30 s' = .next { s' with
        response := some (.data (pack (compute ⟨s.ctrlWidth, s.poly, s.initVal⟩ (fedBytes ts)))) }))

/-- R162: on the configurable engine, PRESET48, CTRL 0x130, START, the five bytes and a read of OUT answer the word that
KEYGEN stores for the same UID and sector, and raise no error. -/
def Obligations.EngineCrossChecksKeygen : Prop :=
  ∀ (s : State) (u0 u1 u2 u3 : Byte) (k : Sector), k ≠ 0 →
    ∃ s' t : State,
      runSteps 9 (withRequests
        [⟨0x28, .write 0x2⟩, ⟨0x00, .write 0x130⟩, ⟨0x28, .write 0x1⟩,
          ⟨0x20, .write (u0.setWidth 64)⟩, ⟨0x20, .write (u1.setWidth 64)⟩, ⟨0x20, .write (u2.setWidth 64)⟩,
          ⟨0x20, .write (u3.setWidth 64)⟩, ⟨0x20, .write (BitVec.ofNat 64 k.val)⟩, ⟨0x30, .read⟩] s) = .next s' ∧
      exec (.cmdKeygen (BitVec.ofNat 8 k.val) 0) { s with uid := u3 ++ u2 ++ u1 ++ u0 } = .next t ∧
      s'.response = some (.data ((t.keys[k]).setWidth 64)) ∧
      s'.err = s.err ∧ s'.errcode = s.errcode

/-- R123 with R82: the CHECKSUM16 sequence answers the packed checksum of the bytes, whose stored form is least significant
byte first, from every state, and raises no error. -/
def Obligations.ChecksumSequenceAnswersChecksum : Prop :=
  ∀ (s : State) (range : ByteString),
    (∃ s' : State, runSteps (range.length + 4) (withRequests (AsmLine.checksum16 range).expand s) = .next s' ∧
      s'.response = some (.data (pack (checksum range))) ∧ s'.err = s.err ∧ s'.errcode = s.errcode) ∧
    checksum range = swap (beBytes 2 (crcReg 16 0x1021 0xFFFF range)) ∧
    checksum range = leBytes 2 (crcReg 16 0x1021 0xFFFF range)

/-- CMD_KEYGEN_ALL equals sixteen KEYGENs, one for each sector, in any order (R157). -/
def Obligations.KeygenAllEqualsSixteenKeygens : Prop :=
  ∀ (s : State) (order : List Sector), order.Perm (List.finRange 16) →
    ∃ t t' : State,
      runSteps 16 (withRequests (order.map fun k => cmdOf 0x04 (BitVec.ofNat 8 k.val)) s) = .next t ∧
      exec (.cmdKeygenAll 0 0) { s with pending := [] } = .next t' ∧ t = t'

/-- R160: the key commands, accepted or refused, write KEY, KVALID and (refused) the error status alone (an accepted one keeps
ERR and ERRCODE: the last clause), so they leave the
configurable engine alone, and what they do to the keys does not depend on it: two states with the same UID, keys and KVALID get the same keys and KVALID. -/
def Obligations.KeyCommandsIndependentOfEngine : Prop :=
  ∀ (i : Instr) (s1 s2 : State), i.mnemonic ∈ [.CMD_KEYGEN, .CMD_KEYGEN_ALL] →
    s1.uid = s2.uid → s1.keys = s2.keys → s1.kvalid = s2.kvalid →
    ∃ t1 t2 : State, exec i s1 = .next t1 ∧ exec i s2 = .next t2 ∧ t1.keys = t2.keys ∧ t1.kvalid = t2.kvalid ∧
      t1 = { s1 with
        keys := t1.keys, kvalid := t1.kvalid, err := t1.err, errcode := t1.errcode, response := t1.response } ∧
      (∀ t : Transaction, decode t = i → transactionError t s1 = .none → t1.err = s1.err ∧ t1.errcode = s1.errcode)

/-- A closed stream stays closed, and REG keeps its value, over every run of transactions without an accepted START: every
FEED among them is refused (R194, R223). -/
def Obligations.ClosedStreamStaysClosedUntilStart : Prop :=
  ∀ (ts : List Transaction) (s : State), s.active = false →
    (∀ t ∈ ts, (decode t).mnemonic = .CMD_START → transactionError t s ≠ .none) →
    ∃ s' : State, runSteps ts.length (withRequests ts s) = .next s' ∧ s'.active = false ∧ s'.reg = s.reg

/-- A configuration change closes the stream: a FEED right after an accepted one records NOT_ACTIVE and keeps REG (R223). -/
def Obligations.FeedAfterReconfigurationIsRefused : Prop :=
  ∀ (t : Transaction) (s : State) (b : Byte),
    (decode t).mnemonic ∈ [.WR_CTRL, .WR_POLY, .WR_INIT, .CMD_PRESET48, .CMD_PRESET16] →
    transactionError t s = .none →
    ∃ s' s'' : State, exec (decode t) s = .next s' ∧ s'.reg = s.reg ∧
      exec (.feed b 0) s' = .next s'' ∧ s''.reg = s.reg ∧ s''.err = true ∧
      s''.errcode = (if s.err then s.errcode else .notActive)

/-- Rewriting CTRL with the same width and the other order keeps REG and lets OUT be read in the other byte order: the bytes
of the one are the other's swapped (R224). -/
def Obligations.OrderChangeRereadsResult : Prop :=
  ∀ s : State, legalWidth s.ctrlWidth = true →
    ∃ t t' : State,
      exec (.wrCtrl s.ctrlWidth 0 .big 0) s = .next t ∧ exec (.wrCtrl s.ctrlWidth 0 .little 0) s = .next t' ∧
      t.reg = s.reg ∧ t'.reg = s.reg ∧
      unpack (s.ctrlWidth.toNat / 8) t.outWord = swap (unpack (s.ctrlWidth.toNat / 8) t'.outWord)
end

