-- ==== Sys2Proof/Laws/Crc.lean ====
section
/-! SUPPORT. The small laws of masks, byte strings and CRC rounds that later proofs rest on. -/

namespace Sys2Proof.Machine

/-! ## Masks -/

theorem getLsbD_mask (w i : Nat) : (mask w).getLsbD i = (decide (i < 64) && decide (i < w)) := by
  simp [mask, BitVec.getLsbD_ofNat]

theorem and_mask_and_mask (r : Word) (w : Nat) : r &&& mask w &&& mask w = r &&& mask w := by
  rw [BitVec.and_assoc, BitVec.and_self]

theorem toNat_mask {w : Nat} (h : w ≤ 64) : (mask w).toNat = 2 ^ w - 1 := by
  have : 2 ^ w ≤ 2 ^ 64 := Nat.pow_le_pow_right (by omega) h
  simp only [mask, BitVec.toNat_ofNat]
  exact Nat.mod_eq_of_lt (by omega)

theorem toNat_and_mask {w : Nat} (h : w ≤ 64) (r : Word) : (r &&& mask w).toNat = r.toNat % 2 ^ w := by
  rw [BitVec.toNat_and, toNat_mask h, Nat.and_two_pow_sub_one_eq_mod]

theorem and_mask_eq_self_iff {w : Nat} (h : w ≤ 64) (r : Word) : r &&& mask w = r ↔ r.toNat < 2 ^ w := by
  have hp := Nat.two_pow_pos w
  rw [← BitVec.toNat_inj, toNat_and_mask h]
  constructor
  · intro e; have := Nat.mod_lt r.toNat hp; omega
  · exact Nat.mod_eq_of_lt

/-! ## Rounds -/

theorem crcRound_and_mask (w : Nat) (poly r : Word) : crcRound w poly r &&& mask w = crcRound w poly r := by
  unfold crcRound; split <;> exact and_mask_and_mask _ w

theorem crcRounds_succ_and_mask (w : Nat) (poly : Word) (k : Nat) (r : Word) :
    crcRounds w poly (k + 1) r &&& mask w = crcRounds w poly (k + 1) r := by
  induction k generalizing r with
  | zero => exact crcRound_and_mask w poly r
  | succ k ih => exact ih (crcRound w poly r)

theorem feedByte_and_mask (w : Nat) (poly r : Word) (b : Byte) :
    feedByte w poly r b &&& mask w = feedByte w poly r b := crcRounds_succ_and_mask w poly 7 _

theorem crcReg_nil (w : Nat) (poly initVal : Word) : crcReg w poly initVal [] = initVal &&& mask w := rfl

theorem crcReg_and_mask (w : Nat) (poly initVal : Word) (s : ByteString) :
    crcReg w poly initVal s &&& mask w = crcReg w poly initVal s := by
  have key : ∀ r, r &&& mask w = r → s.foldl (feedByte w poly) r &&& mask w = s.foldl (feedByte w poly) r := by
    induction s with
    | nil => exact fun _ h => h
    | cons b bs ih => exact fun r _ => ih _ (feedByte_and_mask w poly r b)
  exact key _ (and_mask_and_mask initVal w)

/-! ## Byte strings -/

@[simp] theorem length_beBytes (n : Nat) (v : Word) : (beBytes n v).length = n := by simp [beBytes]

@[simp] theorem length_leBytes (n : Nat) (v : Word) : (leBytes n v).length = n := by simp [leBytes]

theorem leBytes_eq_unpack (n : Nat) (v : Word) : leBytes n v = unpack n v := rfl

theorem pack_cons (b : Byte) (bs : ByteString) : pack (b :: bs) = (pack bs <<< 8) ||| b.setWidth 64 := rfl

/-- Bit `i` of a packed string is bit `i % 8` of byte `i / 8` (R12). -/
theorem getLsbD_pack (s : ByteString) (i : Nat) (h : i < 64) :
    (pack s).getLsbD i = ((s[i / 8]?).getD 0).getLsbD (i % 8) := by
  induction s generalizing i with
  | nil => simp [pack]
  | cons b bs ih =>
    rw [pack_cons, BitVec.getLsbD_or, BitVec.getLsbD_shiftLeft, BitVec.getLsbD_setWidth]
    by_cases hi : i < 8
    · have h0 : i / 8 = 0 := by omega
      have h1 : i % 8 = i := by omega
      simp [hi, h, h0, h1]
    · have h0 : i / 8 = (i - 8) / 8 + 1 := by omega
      have h1 : (i - 8) % 8 = i % 8 := by omega
      have hb : b.getLsbD i = false := BitVec.getLsbD_of_ge b i (by omega)
      rw [ih (i - 8) (by omega)]
      simp [hi, h, h0, h1, hb]

end Sys2Proof.Machine
end

