-- ==== Sys2Proof/Laws/State.lean ====
section
/-! SUPPORT. One lemma per field of State per shared update, true by rfl, so that no later proof unfolds an update. -/

namespace Sys2Proof.Machine

/-! ## recordError -/

@[simp] theorem State.recordError_ctrlWidth (c : ErrCode) (s : State) : (s.recordError c).ctrlWidth = s.ctrlWidth := rfl
@[simp] theorem State.recordError_ctrlOrder (c : ErrCode) (s : State) : (s.recordError c).ctrlOrder = s.ctrlOrder := rfl
@[simp] theorem State.recordError_poly (c : ErrCode) (s : State) : (s.recordError c).poly = s.poly := rfl
@[simp] theorem State.recordError_initVal (c : ErrCode) (s : State) : (s.recordError c).initVal = s.initVal := rfl
@[simp] theorem State.recordError_reg (c : ErrCode) (s : State) : (s.recordError c).reg = s.reg := rfl
@[simp] theorem State.recordError_active (c : ErrCode) (s : State) : (s.recordError c).active = s.active := rfl
@[simp] theorem State.recordError_err (c : ErrCode) (s : State) : (s.recordError c).err = true := rfl
@[simp] theorem State.recordError_errcode (c : ErrCode) (s : State) : (s.recordError c).errcode = (if s.err then s.errcode else c) := rfl
@[simp] theorem State.recordError_uid (c : ErrCode) (s : State) : (s.recordError c).uid = s.uid := rfl
@[simp] theorem State.recordError_kvalid (c : ErrCode) (s : State) : (s.recordError c).kvalid = s.kvalid := rfl
@[simp] theorem State.recordError_keys (c : ErrCode) (s : State) : (s.recordError c).keys = s.keys := rfl
@[simp] theorem State.recordError_pending (c : ErrCode) (s : State) : (s.recordError c).pending = s.pending := rfl
@[simp] theorem State.recordError_response (c : ErrCode) (s : State) : (s.recordError c).response = s.response := rfl
@[simp] theorem State.recordError_draws (c : ErrCode) (s : State) : (s.recordError c).draws = s.draws := rfl

/-! ## clearError -/

@[simp] theorem State.clearError_ctrlWidth (s : State) : s.clearError.ctrlWidth = s.ctrlWidth := rfl
@[simp] theorem State.clearError_ctrlOrder (s : State) : s.clearError.ctrlOrder = s.ctrlOrder := rfl
@[simp] theorem State.clearError_poly (s : State) : s.clearError.poly = s.poly := rfl
@[simp] theorem State.clearError_initVal (s : State) : s.clearError.initVal = s.initVal := rfl
@[simp] theorem State.clearError_reg (s : State) : s.clearError.reg = s.reg := rfl
@[simp] theorem State.clearError_active (s : State) : s.clearError.active = s.active := rfl
@[simp] theorem State.clearError_err (s : State) : s.clearError.err = false := rfl
@[simp] theorem State.clearError_errcode (s : State) : s.clearError.errcode = .none := rfl
@[simp] theorem State.clearError_uid (s : State) : s.clearError.uid = s.uid := rfl
@[simp] theorem State.clearError_kvalid (s : State) : s.clearError.kvalid = s.kvalid := rfl
@[simp] theorem State.clearError_keys (s : State) : s.clearError.keys = s.keys := rfl
@[simp] theorem State.clearError_pending (s : State) : s.clearError.pending = s.pending := rfl
@[simp] theorem State.clearError_response (s : State) : s.clearError.response = s.response := rfl
@[simp] theorem State.clearError_draws (s : State) : s.clearError.draws = s.draws := rfl

/-! ## closeStream -/

@[simp] theorem State.closeStream_ctrlWidth (s : State) : s.closeStream.ctrlWidth = s.ctrlWidth := rfl
@[simp] theorem State.closeStream_ctrlOrder (s : State) : s.closeStream.ctrlOrder = s.ctrlOrder := rfl
@[simp] theorem State.closeStream_poly (s : State) : s.closeStream.poly = s.poly := rfl
@[simp] theorem State.closeStream_initVal (s : State) : s.closeStream.initVal = s.initVal := rfl
@[simp] theorem State.closeStream_reg (s : State) : s.closeStream.reg = s.reg := rfl
@[simp] theorem State.closeStream_active (s : State) : s.closeStream.active = false := rfl
@[simp] theorem State.closeStream_err (s : State) : s.closeStream.err = s.err := rfl
@[simp] theorem State.closeStream_errcode (s : State) : s.closeStream.errcode = s.errcode := rfl
@[simp] theorem State.closeStream_uid (s : State) : s.closeStream.uid = s.uid := rfl
@[simp] theorem State.closeStream_kvalid (s : State) : s.closeStream.kvalid = s.kvalid := rfl
@[simp] theorem State.closeStream_keys (s : State) : s.closeStream.keys = s.keys := rfl
@[simp] theorem State.closeStream_pending (s : State) : s.closeStream.pending = s.pending := rfl
@[simp] theorem State.closeStream_response (s : State) : s.closeStream.response = s.response := rfl
@[simp] theorem State.closeStream_draws (s : State) : s.closeStream.draws = s.draws := rfl

/-! ## openStream -/

@[simp] theorem State.openStream_ctrlWidth (s : State) : s.openStream.ctrlWidth = s.ctrlWidth := rfl
@[simp] theorem State.openStream_ctrlOrder (s : State) : s.openStream.ctrlOrder = s.ctrlOrder := rfl
@[simp] theorem State.openStream_poly (s : State) : s.openStream.poly = s.poly := rfl
@[simp] theorem State.openStream_initVal (s : State) : s.openStream.initVal = s.initVal := rfl
@[simp] theorem State.openStream_reg (s : State) : s.openStream.reg = s.reg := rfl
@[simp] theorem State.openStream_active (s : State) : s.openStream.active = true := rfl
@[simp] theorem State.openStream_err (s : State) : s.openStream.err = s.err := rfl
@[simp] theorem State.openStream_errcode (s : State) : s.openStream.errcode = s.errcode := rfl
@[simp] theorem State.openStream_uid (s : State) : s.openStream.uid = s.uid := rfl
@[simp] theorem State.openStream_kvalid (s : State) : s.openStream.kvalid = s.kvalid := rfl
@[simp] theorem State.openStream_keys (s : State) : s.openStream.keys = s.keys := rfl
@[simp] theorem State.openStream_pending (s : State) : s.openStream.pending = s.pending := rfl
@[simp] theorem State.openStream_response (s : State) : s.openStream.response = s.response := rfl
@[simp] theorem State.openStream_draws (s : State) : s.openStream.draws = s.draws := rfl

/-! ## answerRead -/

@[simp] theorem State.answerRead_ctrlWidth (w : Word) (s : State) : (s.answerRead w).ctrlWidth = s.ctrlWidth := rfl
@[simp] theorem State.answerRead_ctrlOrder (w : Word) (s : State) : (s.answerRead w).ctrlOrder = s.ctrlOrder := rfl
@[simp] theorem State.answerRead_poly (w : Word) (s : State) : (s.answerRead w).poly = s.poly := rfl
@[simp] theorem State.answerRead_initVal (w : Word) (s : State) : (s.answerRead w).initVal = s.initVal := rfl
@[simp] theorem State.answerRead_reg (w : Word) (s : State) : (s.answerRead w).reg = s.reg := rfl
@[simp] theorem State.answerRead_active (w : Word) (s : State) : (s.answerRead w).active = s.active := rfl
@[simp] theorem State.answerRead_err (w : Word) (s : State) : (s.answerRead w).err = s.err := rfl
@[simp] theorem State.answerRead_errcode (w : Word) (s : State) : (s.answerRead w).errcode = s.errcode := rfl
@[simp] theorem State.answerRead_uid (w : Word) (s : State) : (s.answerRead w).uid = s.uid := rfl
@[simp] theorem State.answerRead_kvalid (w : Word) (s : State) : (s.answerRead w).kvalid = s.kvalid := rfl
@[simp] theorem State.answerRead_keys (w : Word) (s : State) : (s.answerRead w).keys = s.keys := rfl
@[simp] theorem State.answerRead_pending (w : Word) (s : State) : (s.answerRead w).pending = s.pending := rfl
@[simp] theorem State.answerRead_response (w : Word) (s : State) : (s.answerRead w).response = some (.data w) := rfl
@[simp] theorem State.answerRead_draws (w : Word) (s : State) : (s.answerRead w).draws = s.draws := rfl

/-! ## answerWrite -/

@[simp] theorem State.answerWrite_ctrlWidth (s : State) : s.answerWrite.ctrlWidth = s.ctrlWidth := rfl
@[simp] theorem State.answerWrite_ctrlOrder (s : State) : s.answerWrite.ctrlOrder = s.ctrlOrder := rfl
@[simp] theorem State.answerWrite_poly (s : State) : s.answerWrite.poly = s.poly := rfl
@[simp] theorem State.answerWrite_initVal (s : State) : s.answerWrite.initVal = s.initVal := rfl
@[simp] theorem State.answerWrite_reg (s : State) : s.answerWrite.reg = s.reg := rfl
@[simp] theorem State.answerWrite_active (s : State) : s.answerWrite.active = s.active := rfl
@[simp] theorem State.answerWrite_err (s : State) : s.answerWrite.err = s.err := rfl
@[simp] theorem State.answerWrite_errcode (s : State) : s.answerWrite.errcode = s.errcode := rfl
@[simp] theorem State.answerWrite_uid (s : State) : s.answerWrite.uid = s.uid := rfl
@[simp] theorem State.answerWrite_kvalid (s : State) : s.answerWrite.kvalid = s.kvalid := rfl
@[simp] theorem State.answerWrite_keys (s : State) : s.answerWrite.keys = s.keys := rfl
@[simp] theorem State.answerWrite_pending (s : State) : s.answerWrite.pending = s.pending := rfl
@[simp] theorem State.answerWrite_response (s : State) : s.answerWrite.response = some .done := rfl
@[simp] theorem State.answerWrite_draws (s : State) : s.answerWrite.draws = s.draws := rfl

/-! ## refuseRead -/

@[simp] theorem State.refuseRead_ctrlWidth (c : ErrCode) (s : State) : (s.refuseRead c).ctrlWidth = s.ctrlWidth := rfl
@[simp] theorem State.refuseRead_ctrlOrder (c : ErrCode) (s : State) : (s.refuseRead c).ctrlOrder = s.ctrlOrder := rfl
@[simp] theorem State.refuseRead_poly (c : ErrCode) (s : State) : (s.refuseRead c).poly = s.poly := rfl
@[simp] theorem State.refuseRead_initVal (c : ErrCode) (s : State) : (s.refuseRead c).initVal = s.initVal := rfl
@[simp] theorem State.refuseRead_reg (c : ErrCode) (s : State) : (s.refuseRead c).reg = s.reg := rfl
@[simp] theorem State.refuseRead_active (c : ErrCode) (s : State) : (s.refuseRead c).active = s.active := rfl
@[simp] theorem State.refuseRead_err (c : ErrCode) (s : State) : (s.refuseRead c).err = true := rfl
@[simp] theorem State.refuseRead_errcode (c : ErrCode) (s : State) : (s.refuseRead c).errcode = (if s.err then s.errcode else c) := rfl
@[simp] theorem State.refuseRead_uid (c : ErrCode) (s : State) : (s.refuseRead c).uid = s.uid := rfl
@[simp] theorem State.refuseRead_kvalid (c : ErrCode) (s : State) : (s.refuseRead c).kvalid = s.kvalid := rfl
@[simp] theorem State.refuseRead_keys (c : ErrCode) (s : State) : (s.refuseRead c).keys = s.keys := rfl
@[simp] theorem State.refuseRead_pending (c : ErrCode) (s : State) : (s.refuseRead c).pending = s.pending := rfl
@[simp] theorem State.refuseRead_response (c : ErrCode) (s : State) : (s.refuseRead c).response = some (.data 0) := rfl
@[simp] theorem State.refuseRead_draws (c : ErrCode) (s : State) : (s.refuseRead c).draws = s.draws := rfl

/-! ## refuseWrite -/

@[simp] theorem State.refuseWrite_ctrlWidth (c : ErrCode) (s : State) : (s.refuseWrite c).ctrlWidth = s.ctrlWidth := rfl
@[simp] theorem State.refuseWrite_ctrlOrder (c : ErrCode) (s : State) : (s.refuseWrite c).ctrlOrder = s.ctrlOrder := rfl
@[simp] theorem State.refuseWrite_poly (c : ErrCode) (s : State) : (s.refuseWrite c).poly = s.poly := rfl
@[simp] theorem State.refuseWrite_initVal (c : ErrCode) (s : State) : (s.refuseWrite c).initVal = s.initVal := rfl
@[simp] theorem State.refuseWrite_reg (c : ErrCode) (s : State) : (s.refuseWrite c).reg = s.reg := rfl
@[simp] theorem State.refuseWrite_active (c : ErrCode) (s : State) : (s.refuseWrite c).active = s.active := rfl
@[simp] theorem State.refuseWrite_err (c : ErrCode) (s : State) : (s.refuseWrite c).err = true := rfl
@[simp] theorem State.refuseWrite_errcode (c : ErrCode) (s : State) : (s.refuseWrite c).errcode = (if s.err then s.errcode else c) := rfl
@[simp] theorem State.refuseWrite_uid (c : ErrCode) (s : State) : (s.refuseWrite c).uid = s.uid := rfl
@[simp] theorem State.refuseWrite_kvalid (c : ErrCode) (s : State) : (s.refuseWrite c).kvalid = s.kvalid := rfl
@[simp] theorem State.refuseWrite_keys (c : ErrCode) (s : State) : (s.refuseWrite c).keys = s.keys := rfl
@[simp] theorem State.refuseWrite_pending (c : ErrCode) (s : State) : (s.refuseWrite c).pending = s.pending := rfl
@[simp] theorem State.refuseWrite_response (c : ErrCode) (s : State) : (s.refuseWrite c).response = some .done := rfl
@[simp] theorem State.refuseWrite_draws (c : ErrCode) (s : State) : (s.refuseWrite c).draws = s.draws := rfl

/-! ## setCtrl -/

@[simp] theorem State.setCtrl_ctrlWidth (w : BitVec 7) (o : ByteOrder) (s : State) : (s.setCtrl w o).ctrlWidth = w := rfl
@[simp] theorem State.setCtrl_ctrlOrder (w : BitVec 7) (o : ByteOrder) (s : State) : (s.setCtrl w o).ctrlOrder = o := rfl
@[simp] theorem State.setCtrl_poly (w : BitVec 7) (o : ByteOrder) (s : State) : (s.setCtrl w o).poly = s.poly := rfl
@[simp] theorem State.setCtrl_initVal (w : BitVec 7) (o : ByteOrder) (s : State) : (s.setCtrl w o).initVal = s.initVal := rfl
@[simp] theorem State.setCtrl_reg (w : BitVec 7) (o : ByteOrder) (s : State) : (s.setCtrl w o).reg = s.reg := rfl
@[simp] theorem State.setCtrl_active (w : BitVec 7) (o : ByteOrder) (s : State) : (s.setCtrl w o).active = s.active := rfl
@[simp] theorem State.setCtrl_err (w : BitVec 7) (o : ByteOrder) (s : State) : (s.setCtrl w o).err = s.err := rfl
@[simp] theorem State.setCtrl_errcode (w : BitVec 7) (o : ByteOrder) (s : State) : (s.setCtrl w o).errcode = s.errcode := rfl
@[simp] theorem State.setCtrl_uid (w : BitVec 7) (o : ByteOrder) (s : State) : (s.setCtrl w o).uid = s.uid := rfl
@[simp] theorem State.setCtrl_kvalid (w : BitVec 7) (o : ByteOrder) (s : State) : (s.setCtrl w o).kvalid = s.kvalid := rfl
@[simp] theorem State.setCtrl_keys (w : BitVec 7) (o : ByteOrder) (s : State) : (s.setCtrl w o).keys = s.keys := rfl
@[simp] theorem State.setCtrl_pending (w : BitVec 7) (o : ByteOrder) (s : State) : (s.setCtrl w o).pending = s.pending := rfl
@[simp] theorem State.setCtrl_response (w : BitVec 7) (o : ByteOrder) (s : State) : (s.setCtrl w o).response = s.response := rfl
@[simp] theorem State.setCtrl_draws (w : BitVec 7) (o : ByteOrder) (s : State) : (s.setCtrl w o).draws = s.draws := rfl

/-! ## setPoly -/

@[simp] theorem State.setPoly_ctrlWidth (v : Word) (s : State) : (s.setPoly v).ctrlWidth = s.ctrlWidth := rfl
@[simp] theorem State.setPoly_ctrlOrder (v : Word) (s : State) : (s.setPoly v).ctrlOrder = s.ctrlOrder := rfl
@[simp] theorem State.setPoly_poly (v : Word) (s : State) : (s.setPoly v).poly = v := rfl
@[simp] theorem State.setPoly_initVal (v : Word) (s : State) : (s.setPoly v).initVal = s.initVal := rfl
@[simp] theorem State.setPoly_reg (v : Word) (s : State) : (s.setPoly v).reg = s.reg := rfl
@[simp] theorem State.setPoly_active (v : Word) (s : State) : (s.setPoly v).active = s.active := rfl
@[simp] theorem State.setPoly_err (v : Word) (s : State) : (s.setPoly v).err = s.err := rfl
@[simp] theorem State.setPoly_errcode (v : Word) (s : State) : (s.setPoly v).errcode = s.errcode := rfl
@[simp] theorem State.setPoly_uid (v : Word) (s : State) : (s.setPoly v).uid = s.uid := rfl
@[simp] theorem State.setPoly_kvalid (v : Word) (s : State) : (s.setPoly v).kvalid = s.kvalid := rfl
@[simp] theorem State.setPoly_keys (v : Word) (s : State) : (s.setPoly v).keys = s.keys := rfl
@[simp] theorem State.setPoly_pending (v : Word) (s : State) : (s.setPoly v).pending = s.pending := rfl
@[simp] theorem State.setPoly_response (v : Word) (s : State) : (s.setPoly v).response = s.response := rfl
@[simp] theorem State.setPoly_draws (v : Word) (s : State) : (s.setPoly v).draws = s.draws := rfl

/-! ## setInit -/

@[simp] theorem State.setInit_ctrlWidth (v : Word) (s : State) : (s.setInit v).ctrlWidth = s.ctrlWidth := rfl
@[simp] theorem State.setInit_ctrlOrder (v : Word) (s : State) : (s.setInit v).ctrlOrder = s.ctrlOrder := rfl
@[simp] theorem State.setInit_poly (v : Word) (s : State) : (s.setInit v).poly = s.poly := rfl
@[simp] theorem State.setInit_initVal (v : Word) (s : State) : (s.setInit v).initVal = v := rfl
@[simp] theorem State.setInit_reg (v : Word) (s : State) : (s.setInit v).reg = s.reg := rfl
@[simp] theorem State.setInit_active (v : Word) (s : State) : (s.setInit v).active = s.active := rfl
@[simp] theorem State.setInit_err (v : Word) (s : State) : (s.setInit v).err = s.err := rfl
@[simp] theorem State.setInit_errcode (v : Word) (s : State) : (s.setInit v).errcode = s.errcode := rfl
@[simp] theorem State.setInit_uid (v : Word) (s : State) : (s.setInit v).uid = s.uid := rfl
@[simp] theorem State.setInit_kvalid (v : Word) (s : State) : (s.setInit v).kvalid = s.kvalid := rfl
@[simp] theorem State.setInit_keys (v : Word) (s : State) : (s.setInit v).keys = s.keys := rfl
@[simp] theorem State.setInit_pending (v : Word) (s : State) : (s.setInit v).pending = s.pending := rfl
@[simp] theorem State.setInit_response (v : Word) (s : State) : (s.setInit v).response = s.response := rfl
@[simp] theorem State.setInit_draws (v : Word) (s : State) : (s.setInit v).draws = s.draws := rfl

/-! ## setReg -/

@[simp] theorem State.setReg_ctrlWidth (v : Word) (s : State) : (s.setReg v).ctrlWidth = s.ctrlWidth := rfl
@[simp] theorem State.setReg_ctrlOrder (v : Word) (s : State) : (s.setReg v).ctrlOrder = s.ctrlOrder := rfl
@[simp] theorem State.setReg_poly (v : Word) (s : State) : (s.setReg v).poly = s.poly := rfl
@[simp] theorem State.setReg_initVal (v : Word) (s : State) : (s.setReg v).initVal = s.initVal := rfl
@[simp] theorem State.setReg_reg (v : Word) (s : State) : (s.setReg v).reg = v := rfl
@[simp] theorem State.setReg_active (v : Word) (s : State) : (s.setReg v).active = s.active := rfl
@[simp] theorem State.setReg_err (v : Word) (s : State) : (s.setReg v).err = s.err := rfl
@[simp] theorem State.setReg_errcode (v : Word) (s : State) : (s.setReg v).errcode = s.errcode := rfl
@[simp] theorem State.setReg_uid (v : Word) (s : State) : (s.setReg v).uid = s.uid := rfl
@[simp] theorem State.setReg_kvalid (v : Word) (s : State) : (s.setReg v).kvalid = s.kvalid := rfl
@[simp] theorem State.setReg_keys (v : Word) (s : State) : (s.setReg v).keys = s.keys := rfl
@[simp] theorem State.setReg_pending (v : Word) (s : State) : (s.setReg v).pending = s.pending := rfl
@[simp] theorem State.setReg_response (v : Word) (s : State) : (s.setReg v).response = s.response := rfl
@[simp] theorem State.setReg_draws (v : Word) (s : State) : (s.setReg v).draws = s.draws := rfl

/-! ## loadSpec -/

@[simp] theorem State.loadSpec_ctrlWidth (spec : CrcSpec) (s : State) : (s.loadSpec spec).ctrlWidth = spec.width := rfl
@[simp] theorem State.loadSpec_ctrlOrder (spec : CrcSpec) (s : State) : (s.loadSpec spec).ctrlOrder = s.ctrlOrder := rfl
@[simp] theorem State.loadSpec_poly (spec : CrcSpec) (s : State) : (s.loadSpec spec).poly = spec.poly := rfl
@[simp] theorem State.loadSpec_initVal (spec : CrcSpec) (s : State) : (s.loadSpec spec).initVal = spec.initVal := rfl
@[simp] theorem State.loadSpec_reg (spec : CrcSpec) (s : State) : (s.loadSpec spec).reg = s.reg := rfl
@[simp] theorem State.loadSpec_active (spec : CrcSpec) (s : State) : (s.loadSpec spec).active = s.active := rfl
@[simp] theorem State.loadSpec_err (spec : CrcSpec) (s : State) : (s.loadSpec spec).err = s.err := rfl
@[simp] theorem State.loadSpec_errcode (spec : CrcSpec) (s : State) : (s.loadSpec spec).errcode = s.errcode := rfl
@[simp] theorem State.loadSpec_uid (spec : CrcSpec) (s : State) : (s.loadSpec spec).uid = s.uid := rfl
@[simp] theorem State.loadSpec_kvalid (spec : CrcSpec) (s : State) : (s.loadSpec spec).kvalid = s.kvalid := rfl
@[simp] theorem State.loadSpec_keys (spec : CrcSpec) (s : State) : (s.loadSpec spec).keys = s.keys := rfl
@[simp] theorem State.loadSpec_pending (spec : CrcSpec) (s : State) : (s.loadSpec spec).pending = s.pending := rfl
@[simp] theorem State.loadSpec_response (spec : CrcSpec) (s : State) : (s.loadSpec spec).response = s.response := rfl
@[simp] theorem State.loadSpec_draws (spec : CrcSpec) (s : State) : (s.loadSpec spec).draws = s.draws := rfl

/-! ## setUid -/

@[simp] theorem State.setUid_ctrlWidth (v : BitVec 32) (s : State) : (s.setUid v).ctrlWidth = s.ctrlWidth := rfl
@[simp] theorem State.setUid_ctrlOrder (v : BitVec 32) (s : State) : (s.setUid v).ctrlOrder = s.ctrlOrder := rfl
@[simp] theorem State.setUid_poly (v : BitVec 32) (s : State) : (s.setUid v).poly = s.poly := rfl
@[simp] theorem State.setUid_initVal (v : BitVec 32) (s : State) : (s.setUid v).initVal = s.initVal := rfl
@[simp] theorem State.setUid_reg (v : BitVec 32) (s : State) : (s.setUid v).reg = s.reg := rfl
@[simp] theorem State.setUid_active (v : BitVec 32) (s : State) : (s.setUid v).active = s.active := rfl
@[simp] theorem State.setUid_err (v : BitVec 32) (s : State) : (s.setUid v).err = s.err := rfl
@[simp] theorem State.setUid_errcode (v : BitVec 32) (s : State) : (s.setUid v).errcode = s.errcode := rfl
@[simp] theorem State.setUid_uid (v : BitVec 32) (s : State) : (s.setUid v).uid = v := rfl
@[simp] theorem State.setUid_kvalid (v : BitVec 32) (s : State) : (s.setUid v).kvalid = 0 := rfl
@[simp] theorem State.setUid_keys (v : BitVec 32) (s : State) : (s.setUid v).keys = s.keys := rfl
@[simp] theorem State.setUid_pending (v : BitVec 32) (s : State) : (s.setUid v).pending = s.pending := rfl
@[simp] theorem State.setUid_response (v : BitVec 32) (s : State) : (s.setUid v).response = s.response := rfl
@[simp] theorem State.setUid_draws (v : BitVec 32) (s : State) : (s.setUid v).draws = s.draws := rfl

/-! ## setKey -/

@[simp] theorem State.setKey_ctrlWidth (k : Sector) (v : BitVec 48) (s : State) : (s.setKey k v).ctrlWidth = s.ctrlWidth := rfl
@[simp] theorem State.setKey_ctrlOrder (k : Sector) (v : BitVec 48) (s : State) : (s.setKey k v).ctrlOrder = s.ctrlOrder := rfl
@[simp] theorem State.setKey_poly (k : Sector) (v : BitVec 48) (s : State) : (s.setKey k v).poly = s.poly := rfl
@[simp] theorem State.setKey_initVal (k : Sector) (v : BitVec 48) (s : State) : (s.setKey k v).initVal = s.initVal := rfl
@[simp] theorem State.setKey_reg (k : Sector) (v : BitVec 48) (s : State) : (s.setKey k v).reg = s.reg := rfl
@[simp] theorem State.setKey_active (k : Sector) (v : BitVec 48) (s : State) : (s.setKey k v).active = s.active := rfl
@[simp] theorem State.setKey_err (k : Sector) (v : BitVec 48) (s : State) : (s.setKey k v).err = s.err := rfl
@[simp] theorem State.setKey_errcode (k : Sector) (v : BitVec 48) (s : State) : (s.setKey k v).errcode = s.errcode := rfl
@[simp] theorem State.setKey_uid (k : Sector) (v : BitVec 48) (s : State) : (s.setKey k v).uid = s.uid := rfl
@[simp] theorem State.setKey_kvalid (k : Sector) (v : BitVec 48) (s : State) : (s.setKey k v).kvalid = s.kvalid ||| (1#16 <<< k.val) := rfl
@[simp] theorem State.setKey_keys (k : Sector) (v : BitVec 48) (s : State) : (s.setKey k v).keys = s.keys.set k.val v k.isLt := rfl
@[simp] theorem State.setKey_pending (k : Sector) (v : BitVec 48) (s : State) : (s.setKey k v).pending = s.pending := rfl
@[simp] theorem State.setKey_response (k : Sector) (v : BitVec 48) (s : State) : (s.setKey k v).response = s.response := rfl
@[simp] theorem State.setKey_draws (k : Sector) (v : BitVec 48) (s : State) : (s.setKey k v).draws = s.draws := rfl

/-! ## setKeys -/

@[simp] theorem State.setKeys_ctrlWidth (v : Sector → BitVec 48) (s : State) : (s.setKeys v).ctrlWidth = s.ctrlWidth := rfl
@[simp] theorem State.setKeys_ctrlOrder (v : Sector → BitVec 48) (s : State) : (s.setKeys v).ctrlOrder = s.ctrlOrder := rfl
@[simp] theorem State.setKeys_poly (v : Sector → BitVec 48) (s : State) : (s.setKeys v).poly = s.poly := rfl
@[simp] theorem State.setKeys_initVal (v : Sector → BitVec 48) (s : State) : (s.setKeys v).initVal = s.initVal := rfl
@[simp] theorem State.setKeys_reg (v : Sector → BitVec 48) (s : State) : (s.setKeys v).reg = s.reg := rfl
@[simp] theorem State.setKeys_active (v : Sector → BitVec 48) (s : State) : (s.setKeys v).active = s.active := rfl
@[simp] theorem State.setKeys_err (v : Sector → BitVec 48) (s : State) : (s.setKeys v).err = s.err := rfl
@[simp] theorem State.setKeys_errcode (v : Sector → BitVec 48) (s : State) : (s.setKeys v).errcode = s.errcode := rfl
@[simp] theorem State.setKeys_uid (v : Sector → BitVec 48) (s : State) : (s.setKeys v).uid = s.uid := rfl
@[simp] theorem State.setKeys_kvalid (v : Sector → BitVec 48) (s : State) : (s.setKeys v).kvalid = 0xFFFF := rfl
@[simp] theorem State.setKeys_keys (v : Sector → BitVec 48) (s : State) : (s.setKeys v).keys = Vector.ofFn v := rfl
@[simp] theorem State.setKeys_pending (v : Sector → BitVec 48) (s : State) : (s.setKeys v).pending = s.pending := rfl
@[simp] theorem State.setKeys_response (v : Sector → BitVec 48) (s : State) : (s.setKeys v).response = s.response := rfl
@[simp] theorem State.setKeys_draws (v : Sector → BitVec 48) (s : State) : (s.setKeys v).draws = s.draws := rfl

/-! ## pushEvent -/

@[simp] theorem State.pushEvent_ctrlWidth (e : HostEvent) (s : State) : (s.pushEvent e).ctrlWidth = s.ctrlWidth := rfl
@[simp] theorem State.pushEvent_ctrlOrder (e : HostEvent) (s : State) : (s.pushEvent e).ctrlOrder = s.ctrlOrder := rfl
@[simp] theorem State.pushEvent_poly (e : HostEvent) (s : State) : (s.pushEvent e).poly = s.poly := rfl
@[simp] theorem State.pushEvent_initVal (e : HostEvent) (s : State) : (s.pushEvent e).initVal = s.initVal := rfl
@[simp] theorem State.pushEvent_reg (e : HostEvent) (s : State) : (s.pushEvent e).reg = s.reg := rfl
@[simp] theorem State.pushEvent_active (e : HostEvent) (s : State) : (s.pushEvent e).active = s.active := rfl
@[simp] theorem State.pushEvent_err (e : HostEvent) (s : State) : (s.pushEvent e).err = s.err := rfl
@[simp] theorem State.pushEvent_errcode (e : HostEvent) (s : State) : (s.pushEvent e).errcode = s.errcode := rfl
@[simp] theorem State.pushEvent_uid (e : HostEvent) (s : State) : (s.pushEvent e).uid = s.uid := rfl
@[simp] theorem State.pushEvent_kvalid (e : HostEvent) (s : State) : (s.pushEvent e).kvalid = s.kvalid := rfl
@[simp] theorem State.pushEvent_keys (e : HostEvent) (s : State) : (s.pushEvent e).keys = s.keys := rfl
@[simp] theorem State.pushEvent_pending (e : HostEvent) (s : State) : (s.pushEvent e).pending = e :: s.pending := rfl
@[simp] theorem State.pushEvent_response (e : HostEvent) (s : State) : (s.pushEvent e).response = s.response := rfl
@[simp] theorem State.pushEvent_draws (e : HostEvent) (s : State) : (s.pushEvent e).draws = s.draws := rfl

/-! ## applyReset -/

@[simp] theorem State.applyReset_ctrlWidth (s : State) : s.applyReset.ctrlWidth = 16 := rfl
@[simp] theorem State.applyReset_ctrlOrder (s : State) : s.applyReset.ctrlOrder = .big := rfl
@[simp] theorem State.applyReset_poly (s : State) : s.applyReset.poly = 0x1021 := rfl
@[simp] theorem State.applyReset_initVal (s : State) : s.applyReset.initVal = 0xFFFF := rfl
@[simp] theorem State.applyReset_reg (s : State) : s.applyReset.reg = 0 := rfl
@[simp] theorem State.applyReset_active (s : State) : s.applyReset.active = false := rfl
@[simp] theorem State.applyReset_err (s : State) : s.applyReset.err = false := rfl
@[simp] theorem State.applyReset_errcode (s : State) : s.applyReset.errcode = .none := rfl
@[simp] theorem State.applyReset_uid (s : State) : s.applyReset.uid = 0 := rfl
@[simp] theorem State.applyReset_kvalid (s : State) : s.applyReset.kvalid = 0 := rfl
@[simp] theorem State.applyReset_keys (s : State) : s.applyReset.keys = Vector.replicate 16 0 := rfl
@[simp] theorem State.applyReset_pending (s : State) : s.applyReset.pending = s.pending := rfl
@[simp] theorem State.applyReset_response (s : State) : s.applyReset.response = none := rfl
@[simp] theorem State.applyReset_draws (s : State) : s.applyReset.draws = s.draws := rfl

end Sys2Proof.Machine
end

