-- ==== Sys2Proof/Laws/Ops.lean ====
section
/-! SUPPORT. What each shared operation can do, said once: checks on fields, error recording, key writes, the host's next
event. -/

namespace Sys2Proof.Machine

/-! ## Checks on written fields -/

theorem ctrlReservedZero_iff (r7 : BitVec 1) (rHi : BitVec 55) : ctrlReservedZero r7 rHi = true ↔ r7 = 0 ∧ rHi = 0 := by
  simp [ctrlReservedZero]

theorem noArgument_iff (arg : Byte) (rsv : BitVec 48) : noArgument arg rsv = true ↔ rsv = 0 ∧ arg = 0 := by
  simp [noArgument]

theorem legalWidth_iff (w : BitVec 7) : legalWidth w = true ↔ w ∈ legalWidths := by
  simp [legalWidth]

theorem legalWidth_toNat {w : BitVec 7} (h : legalWidth w = true) : ∃ n, 1 ≤ n ∧ n ≤ 8 ∧ w.toNat = 8 * n := by
  simp only [legalWidth, legalWidths, List.contains_iff_mem, List.mem_cons, List.not_mem_nil, or_false] at h
  rcases h with rfl | rfl | rfl | rfl | rfl | rfl | rfl | rfl
  exacts [⟨1, by decide⟩, ⟨2, by decide⟩, ⟨3, by decide⟩, ⟨4, by decide⟩, ⟨5, by decide⟩, ⟨6, by decide⟩,
    ⟨7, by decide⟩, ⟨8, by decide⟩]

theorem sectorOfArg_eq_some_iff (arg : Byte) (k : Sector) : sectorOfArg arg = some k ↔ arg.toNat = k.val := by
  unfold sectorOfArg
  split
  · simp [Fin.ext_iff]
  · have := k.isLt
    simp
    omega

theorem sectorOfArg_eq_none_iff (arg : Byte) : sectorOfArg arg = none ↔ 15 < arg.toNat := by
  unfold sectorOfArg
  split <;> simp <;> omega

/-! ## Errors -/

theorem State.recordError_of_err {s : State} (h : s.err = true) (c : ErrCode) : s.recordError c = s := by
  cases s; simp_all [State.recordError]

theorem State.refuse_eq_refused (c : ErrCode) (a : Access) (s : State) : s.refuse c a = refused c a s := by
  cases a <;> rfl

theorem State.refuseRead_eq_refused (c : ErrCode) (s : State) : s.refuseRead c = refused c .read s := rfl

theorem State.refuseWrite_eq_refused (c : ErrCode) (v : Word) (s : State) : s.refuseWrite c = refused c (.write v) s := rfl

/-! ## Keys -/

theorem State.setKey_getElem (k j : Sector) (v : BitVec 48) (s : State) :
    (s.setKey k v).keys[j] = if k = j then v else s.keys[j] := by
  simp [State.setKey, Vector.getElem_set, Fin.ext_iff]

theorem State.setKey_kvalid_getLsbD (k j : Sector) (v : BitVec 48) (s : State) :
    (s.setKey k v).kvalid.getLsbD j.val = (decide (k = j) || s.kvalid.getLsbD j.val) := by
  have h : (1#16 <<< k.val).getLsbD j.val = decide (k = j) := by revert k j; decide
  rw [State.setKey_kvalid, BitVec.getLsbD_or, h, Bool.or_comm]

theorem State.setKeys_getElem (v : Sector → BitVec 48) (j : Sector) (s : State) : (s.setKeys v).keys[j] = v j := by
  simp [State.setKeys]

theorem State.setKeys_kvalid_getLsbD (v : Sector → BitVec 48) (j : Sector) (s : State) :
    (s.setKeys v).kvalid.getLsbD j.val = true := by
  rw [State.setKeys_kvalid]; revert j; decide

/-! ## Events -/

theorem State.nextEvent_eq_none_iff (s : State) : s.nextEvent = none ↔ s.pending = [] := by
  unfold State.nextEvent; split <;> simp_all

theorem State.nextEvent_eq_some_iff (s s' : State) (e : HostEvent) :
    s.nextEvent = some (e, s') ↔ ∃ rest, s.pending = e :: rest ∧ s' = { s with pending := rest } := by
  unfold State.nextEvent
  split <;> rename_i h <;> simp [h, eq_comm]

theorem State.applyReset_atResetValues (s : State) : AtResetValues s.applyReset := by
  constructor <;> first | rfl | simp

theorem State.applyResetWith_of_read {t : Transaction} (h : t.access = .read) (s : State) :
    s.applyResetWith t =
      { s.applyReset with response := some (.data (Config.readDuringReset s.draws)), draws := s.draws + 1 } := by
  simp [State.applyResetWith, h, State.answerRead]

theorem State.applyResetWith_of_write {t : Transaction} {v : Word} (h : t.access = .write v) (s : State) :
    s.applyResetWith t = { s.applyReset with response := some .done } := by
  simp [State.applyResetWith, h, State.answerWrite]

end Sys2Proof.Machine
end

