-- ==== Sys2Proof/Laws/PerInstr.lean ====
section
/-! SUPPORT. A family of facts about the encoding of each operation: an operation other than ERR_MISALIGNED is spelled at an
aligned offset, ERR_MISALIGNED at a misaligned one (R52, R72). -/

namespace Sys2Proof.Laws.EncodedOffset

/-- A well-formed operation's offset is misaligned exactly when the operation is ERR_MISALIGNED. -/
def Statement (i : Instr) : Prop :=
  wellFormed i = true → misaligned (encode i).addr = decide (i.mnemonic = .ERR_MISALIGNED)

theorem misaligned_offset (r : Register) : misaligned r.offset = false := by
  cases r with
  | key s => revert s; decide
  | _ => decide

theorem errMisaligned (addr : Byte) (a : Access) : Statement (.errMisaligned addr a) := fun h => h

theorem misaligned_unmappedOffset : ∀ addr ∈ unmappedOffsets, misaligned addr = false := by decide

theorem errUnmapped (addr : Byte) (a : Access) : Statement (.errUnmapped addr a) :=
  fun h => misaligned_unmappedOffset addr (by simpa [wellFormed] using h)

theorem rdCtrl : Statement .rdCtrl := fun _ => misaligned_offset _
theorem wrCtrl (w : BitVec 7) (r7 : BitVec 1) (o : ByteOrder) (rHi : BitVec 55) : Statement (.wrCtrl w r7 o rHi) :=
  fun _ => misaligned_offset _
theorem rdPoly : Statement .rdPoly := fun _ => misaligned_offset _
theorem wrPoly (v : Word) : Statement (.wrPoly v) := fun _ => misaligned_offset _
theorem rdInit : Statement .rdInit := fun _ => misaligned_offset _
theorem wrInit (v : Word) : Statement (.wrInit v) := fun _ => misaligned_offset _
theorem rdReg : Statement .rdReg := fun _ => misaligned_offset _
theorem errWrRo (r : Register) (v : Word) : Statement (.errWrRo r v) := fun _ => misaligned_offset _
theorem errRdWo (r : Register) : Statement (.errRdWo r) := fun _ => misaligned_offset _
theorem feed (b : Byte) (rsv : BitVec 56) : Statement (.feed b rsv) := fun _ => misaligned_offset _
theorem cmdStart (arg : Byte) (rsv : BitVec 48) : Statement (.cmdStart arg rsv) := fun _ => misaligned_offset _
theorem cmdPreset48 (arg : Byte) (rsv : BitVec 48) : Statement (.cmdPreset48 arg rsv) := fun _ => misaligned_offset _
theorem cmdPreset16 (arg : Byte) (rsv : BitVec 48) : Statement (.cmdPreset16 arg rsv) := fun _ => misaligned_offset _
theorem cmdKeygen (arg : Byte) (rsv : BitVec 48) : Statement (.cmdKeygen arg rsv) := fun _ => misaligned_offset _
theorem cmdKeygenAll (arg : Byte) (rsv : BitVec 48) : Statement (.cmdKeygenAll arg rsv) := fun _ => misaligned_offset _
theorem cmdClrerr (arg : Byte) (rsv : BitVec 48) : Statement (.cmdClrerr arg rsv) := fun _ => misaligned_offset _
theorem errCmdUnknown (op arg : Byte) (rsv : BitVec 48) : Statement (.errCmdUnknown op arg rsv) :=
  fun _ => misaligned_offset _
theorem rdOut : Statement .rdOut := fun _ => misaligned_offset _
theorem rdStatus : Statement .rdStatus := fun _ => misaligned_offset _
theorem rdUid : Statement .rdUid := fun _ => misaligned_offset _
theorem wrUid (u rsv : BitVec 32) : Statement (.wrUid u rsv) := fun _ => misaligned_offset _
theorem rdKvalid : Statement .rdKvalid := fun _ => misaligned_offset _
theorem rdKey (s : Sector) : Statement (.rdKey s) := fun _ => misaligned_offset _

end Sys2Proof.Laws.EncodedOffset
end

