-- ==== Sys2Proof/Tests/Slice0.lean ====
section
/-! SUPPORT. Tests. Expected results come from the spec: the encodings of spec/30 R71 to R77 and of each operation's rule, the
field tables, and the vectors of spec/95 (V1, A1 to A20, tables 2.2 to 2.6, programs P1 to P4). -/

namespace Sys2Proof.Tests

open Sys2Proof Sys2Proof.Machine

/-! ## Well-formedness: an ill-formed term for each check -/

theorem test_illFormed_alignedMisaligned : wellFormed (.errMisaligned 0x18 .read) = false := by decide
theorem test_illFormed_mappedUnmapped : wellFormed (.errUnmapped 0x48 .read) = false := by decide
theorem test_illFormed_misalignedUnmapped : wellFormed (.errUnmapped 0x51 .read) = false := by decide
theorem test_illFormed_writableReadOnly : wellFormed (.errWrRo .uid 0) = false := by decide
theorem test_illFormed_readableWriteOnly : wellFormed (.errRdWo .reg) = false := by decide
theorem test_illFormed_knownCommand : wellFormed (.errCmdUnknown 0x06 0 0) = false := by decide

/-! ## Decoding: a word of every operation, written from R72 to R77 and the programs of spec/95 -/

theorem test_decode_errMisaligned : decode ⟨0x21, .write 0x31⟩ = .errMisaligned 0x21 (.write 0x31) := by decide
theorem test_decode_errUnmapped : decode ⟨0x50, .read⟩ = .errUnmapped 0x50 .read := by decide
theorem test_decode_rdCtrl : decode ⟨0x00, .read⟩ = .rdCtrl := by decide
theorem test_decode_wrCtrl : decode ⟨0x00, .write 0x0000000000000390⟩ = .wrCtrl 0x10 1 .little 1 := by decide
theorem test_decode_rdPoly : decode ⟨0x08, .read⟩ = .rdPoly := by decide
theorem test_decode_wrPoly : decode ⟨0x08, .write 0x42F0E1EBA9EA3693⟩ = .wrPoly 0x42F0E1EBA9EA3693 := by decide
theorem test_decode_rdInit : decode ⟨0x10, .read⟩ = .rdInit := by decide
theorem test_decode_wrInit : decode ⟨0x10, .write 0xFFFFFFFF⟩ = .wrInit 0xFFFFFFFF := by decide
theorem test_decode_rdReg : decode ⟨0x18, .read⟩ = .rdReg := by decide
theorem test_decode_errWrRo : decode ⟨0x88, .write 0⟩ = .errWrRo (.key 1) 0 := by decide
theorem test_decode_errRdWo : decode ⟨0x28, .read⟩ = .errRdWo .cmd := by decide
theorem test_decode_feed : decode ⟨0x20, .write 0x0000000000000131⟩ = .feed 0x31 1 := by decide
theorem test_decode_cmdStart : decode ⟨0x28, .write 0x0000000000000101⟩ = .cmdStart 1 0 := by decide
theorem test_decode_cmdPreset48 : decode ⟨0x28, .write 0x0000000000000002⟩ = .cmdPreset48 0 0 := by decide
theorem test_decode_cmdPreset16 : decode ⟨0x28, .write 0x0000000000000003⟩ = .cmdPreset16 0 0 := by decide
theorem test_decode_cmdKeygen : decode ⟨0x28, .write 0x0000000000010104⟩ = .cmdKeygen 1 1 := by decide
theorem test_decode_cmdKeygenAll : decode ⟨0x28, .write 0x0000000000000005⟩ = .cmdKeygenAll 0 0 := by decide
theorem test_decode_cmdClrerr : decode ⟨0x28, .write 0x0000000000000106⟩ = .cmdClrerr 1 0 := by decide
theorem test_decode_errCmdUnknown : decode ⟨0x28, .write 0x0000000000010007⟩ = .errCmdUnknown 0x07 0 1 := by decide
theorem test_decode_cmdZero : decode ⟨0x28, .write 0⟩ = .errCmdUnknown 0x00 0 0 := by decide
theorem test_decode_rdOut : decode ⟨0x30, .read⟩ = .rdOut := by decide
theorem test_decode_rdStatus : decode ⟨0x38, .read⟩ = .rdStatus := by decide
theorem test_decode_rdUid : decode ⟨0x40, .read⟩ = .rdUid := by decide
theorem test_decode_wrUid : decode ⟨0x40, .write 0x00000001EFBEADDE⟩ = .wrUid 0xEFBEADDE 1 := by decide
theorem test_decode_rdKvalid : decode ⟨0x48, .read⟩ = .rdKvalid := by decide
theorem test_decode_rdKey : decode ⟨0xF8, .read⟩ = .rdKey 15 := by decide

theorem test_encode_wrCtrl : encode (.wrCtrl 48 0 .little 0) = ⟨0x00, .write 0x130⟩ := by decide
theorem test_encode_cmdKeygen : encode (.cmdKeygen 16 0) = ⟨0x28, .write 0x1004⟩ := by decide

/-! ## The opcode table's words (R71): the decoder and the first step after reset -/

theorem test_tableWord_keygen : decodeTableWord 24 0x12804 = some (.cmdKeygen 0 0) := by decide
theorem test_tableWord_key : decodeTableWord 24 0x08000 = some (.rdKey 0) := by decide
theorem test_tableWord_readIgnoresData : decodeTableWord 24 0x000FF = some .rdCtrl := by decide
theorem test_tableWord_noTransaction : decodeTableWord 24 0x20000 = none := by decide
theorem test_bytes_wrongLength : transactionOfBytes [0x31, 0x20, 1] = .error .wrongLength := rfl
theorem test_fetch_runs_first :
    step (State.reset.withFetchWord 24 0x12801) = exec (.cmdStart 0 0) State.reset := by rfl

/-! ## The CRC arithmetic (spec/95, V1 and table 2.1) -/

/-- ASCII 123456789. -/
def digits : ByteString := [0x31, 0x32, 0x33, 0x34, 0x35, 0x36, 0x37, 0x38, 0x39]

theorem test_crc_V1 : crcReg 16 0x1021 0xFFFF digits = 0x29B1 := by decide +kernel
theorem test_crc_A2 : crcReg 16 0x1021 0xFFFF [0x00] = 0xE1F0 := by decide +kernel
theorem test_crc_A5 : crcReg 16 0x1021 0x0000 [0x80] = 0x9188 := by decide +kernel
theorem test_crc_A6 : crcReg 16 0xFFFF000000001021 0x0000ABCD0000FFFF digits = 0x29B1 := by decide +kernel
theorem test_crc_A8 : crcReg 8 0x07 0x00 digits = 0xF4 := by decide +kernel
theorem test_crc_A11 : crcReg 16 0x0000 0xABCD [0x55] = 0xCD00 := by decide +kernel
theorem test_crc_A13 : crcReg 24 0x864CFB 0xB704CE digits = 0x21CF02 := by decide +kernel
theorem test_crc_A14 : crcReg 32 0x04C11DB7 0xFFFFFFFF digits = 0x0376E6E7 := by decide +kernel
theorem test_crc_A15 : crcReg 40 0x0004820009 0x00 digits = 0x2BE9B039B9 := by decide +kernel
theorem test_crc_A16 : crcReg 56 0x1B 0x00 digits = 0xFFBEA588AE815F := by decide +kernel
theorem test_crc_A17 : crcReg 64 0x42F0E1EBA9EA3693 0x0 digits = 0x6C40DF5F0B497347 := by decide +kernel
theorem test_crc_A18 : crcReg 64 0x42F0E1EBA9EA3693 0x0 [0x80] = 0xF6FAE5C07D3274CD := by decide +kernel
theorem test_crc_A19 : crcReg 64 0x42F0E1EBA9EA3693 0xFFFFFFFFFFFFFFFF [] = 0xFFFFFFFFFFFFFFFF := by decide +kernel

/-- Table 2.2. -/
theorem test_serialize_32_big : pack (serialize 32 .big 0x0376E6E7) = 0x00000000E7E67603 := by decide +kernel
theorem test_serialize_48_little : serialize 48 .little 0xA7BDC87C5AE2 = [0xE2, 0x5A, 0x7C, 0xC8, 0xBD, 0xA7] := by
  decide +kernel
theorem test_serialize_64_big : pack (serialize 64 .big 0x6C40DF5F0B497347) = 0x4773490B5FDF406C := by decide +kernel
theorem test_serialize_8_masks : serialize 8 .big 0x6C40DF5F0B497347 = [0x47] := by decide +kernel
theorem test_checksum_V1 : checksum digits = [0xB1, 0x29] := by decide +kernel

/-- Table 2.5, under the suggested binding GK2 (spec/93). -/
theorem test_key_gk2_sector15 : packedKey 0x42F0E1EBA9EA3693 0x9AE903260CC4 [0x4B, 0x0B, 0x20, 0x10, 0x7C, 0xCB]
    0x04030201 15 = 0x490B2EC7D8E9 := by decide +kernel
theorem test_key_gk2_deadbeef : packedKey 0x42F0E1EBA9EA3693 0x9AE903260CC4 [0x4B, 0x0B, 0x20, 0x10, 0x7C, 0xCB]
    0xEFBEADDE 1 = 0xCEAF56544239 := by decide +kernel
theorem test_key_gk2_sector0 : packedKey 0x42F0E1EBA9EA3693 0x9AE903260CC4 [0x4B, 0x0B, 0x20, 0x10, 0x7C, 0xCB]
    0x04030201 0 = 0xCB7C10200B4B := by decide +kernel

/-! ## One step of each operation (tables 2.3 to 2.6) -/

/-- What `f` shows of the state after an outcome. -/
def shown {α : Type} (f : State → α) : Host.Outcome State Fault Refusal → Option α
  | .next s => some (f s)
  | .fault _ => none
  | .refused _ => none

/-- CTRL and STATUS. -/
def ctrlAndStatus (s : State) : Word × Word := (s.ctrlWord, s.statusWord)

/-- REG and STATUS. -/
def regAndStatus (s : State) : Word × Word := (s.reg, s.statusWord)

/-- The response and STATUS. -/
def responseAndStatus (s : State) : Option Response × Word := (s.response, s.statusWord)

/-- Reset, but with an open stream on REG 0xFFFF. -/
def openState : State := { State.reset with active := true, reg := 0xFFFF }

/-- Reset, but with REG 0x29B1 (after V1). -/
def afterV1 : State := { State.reset with active := true, reg := 0x29B1 }

theorem test_wrCtrl_accepts : shown ctrlAndStatus (busWrite 0x00 0x130 openState) = some (0x130, 0x00) := by decide
theorem test_wrCtrl_reservedBeforeWidth :
    shown ctrlAndStatus (busWrite 0x00 0x8C State.reset) = some (0x10, 0x32) := by decide
theorem test_wrCtrl_width72 : shown ctrlAndStatus (busWrite 0x00 0x48 State.reset) = some (0x10, 0x42) := by decide
theorem test_rdCtrl_reset : shown (·.response) (busRead 0x00 State.reset) = some (some (.data 0x10)) := by decide
theorem test_wrPoly : shown (fun s => (s.poly, s.active)) (busWrite 0x08 0x04C11DB7 openState) =
    some (0x04C11DB7, false) := by decide
theorem test_rdPoly_reset : shown (·.response) (busRead 0x08 State.reset) = some (some (.data 0x1021)) := by decide
theorem test_wrInit : shown (fun s => (s.initVal, s.active)) (busWrite 0x10 0xFFFFFFFF openState) =
    some (0xFFFFFFFF, false) := by decide
theorem test_rdInit_reset : shown (·.response) (busRead 0x10 State.reset) = some (some (.data 0xFFFF)) := by decide
theorem test_preset48 : shown ctrlAndStatus (busWrite 0x28 0x2 openState) = some (0x30, 0x00) := by decide
theorem test_preset48_arg : shown ctrlAndStatus (busWrite 0x28 0x102 State.reset) = some (0x10, 0x32) := by decide
theorem test_preset16_keepsOrder :
    shown ctrlAndStatus (busWrite 0x28 0x3 { State.reset with ctrlWidth := 32, ctrlOrder := .little }) =
      some (0x110, 0x00) := by decide
theorem test_start_reset : shown regAndStatus (busWrite 0x28 0x1 State.reset) = some (0xFFFF, 0x01) := by decide
theorem test_start_masks : shown regAndStatus (busWrite 0x28 0x1 { State.reset with initVal := 0x12345678 }) =
    some (0x5678, 0x01) := by decide
theorem test_feed_open : shown regAndStatus (busWrite 0x20 0x31 openState) = some (0xC782, 0x01) := by decide +kernel
theorem test_feed_reserved : shown regAndStatus (busWrite 0x20 0x131 openState) = some (0xFFFF, 0x32) := by decide
theorem test_feed_closed : shown regAndStatus (busWrite 0x20 0x31 State.reset) = some (0x0, 0x72) := by decide
theorem test_rdReg : shown (·.response) (busRead 0x18 afterV1) = some (some (.data 0x29B1)) := by decide
theorem test_rdOut_big : shown (·.response) (busRead 0x30 afterV1) = some (some (.data 0xB129)) := by decide +kernel
theorem test_rdOut_little : shown (·.response) (busRead 0x30 { afterV1 with ctrlOrder := .little }) =
    some (some (.data 0x29B1)) := by decide +kernel
theorem test_wrUid : shown (fun s => (s.uid, s.kvalid)) (busWrite 0x40 0x04030201 { State.reset with kvalid := 0xFFFF }) =
    some (0x04030201, 0) := by decide
theorem test_wrUid_reserved :
    shown (fun s => (s.kvalid, s.statusWord)) (busWrite 0x40 0x100000000 { State.reset with kvalid := 0xFFFF }) =
      some (0xFFFF, 0x32) := by decide
theorem test_rdUid : shown (·.response) (busRead 0x40 { State.reset with uid := 0xEFBEADDE }) =
    some (some (.data 0xEFBEADDE)) := by decide
theorem test_keygen_sector0 : shown (fun s => (s.kvalid, s.keys[0])) (busWrite 0x28 0x0004 State.reset) =
    some (0x0001, (pack Config.sector0Key.toList).setWidth 48) := rfl
theorem test_keygen_sector16 : shown (fun s => (s.kvalid, s.statusWord)) (busWrite 0x28 0x1004 State.reset) =
    some (0, 0x62) := by decide
theorem test_keygenAll_kvalid : shown (·.kvalid) (busWrite 0x28 0x5 State.reset) = some 0xFFFF := by decide
theorem test_rdKvalid : shown (·.response) (busRead 0x48 { State.reset with kvalid := 2 }) = some (some (.data 2)) := by
  decide
theorem test_rdKey_stale :
    shown (·.response) (busRead 0x88 { State.reset with keys := State.reset.keys.set 1 0xA7BDC87C5AE2 }) =
      some (some (.data 0xA7BDC87C5AE2)) := by decide
theorem test_rdStatus : shown (·.response) (busRead 0x38 { State.reset with err := true, errcode := .notActive }) =
    some (some (.data 0x72)) := by decide
theorem test_clrerr : shown (·.statusWord) (busWrite 0x28 0x6 { openState with err := true, errcode := .badAddr }) =
    some 0x01 := by decide
theorem test_clrerr_reserved :
    shown (·.statusWord) (busWrite 0x28 0x10006 { openState with err := true, errcode := .badAddr }) = some 0x13 := by
  decide
theorem test_errMisaligned : shown responseAndStatus (busRead 0x04 State.reset) = some (some (.data 0), 0x12) := by
  decide
theorem test_errMisaligned_noFeed : shown regAndStatus (busWrite 0x21 0x31 openState) = some (0xFFFF, 0x13) := by decide
theorem test_errUnmapped : shown responseAndStatus (busRead 0x50 State.reset) = some (some (.data 0), 0x12) := by decide
theorem test_errWrRo : shown responseAndStatus (busWrite 0x18 0 State.reset) = some (some .done, 0x22) := by decide
theorem test_errRdWo : shown responseAndStatus (busRead 0x20 State.reset) = some (some (.data 0), 0x22) := by decide
theorem test_errCmdUnknown : shown responseAndStatus (busWrite 0x28 0x07 State.reset) = some (some .done, 0x52) := by
  decide
theorem test_errCmdUnknown_reservedFirst : shown (·.statusWord) (busWrite 0x28 0x10007 State.reset) = some 0x32 := by
  decide
theorem test_firstErrorKept :
    shown (·.statusWord) (busWrite 0x21 0 { State.reset with err := true, errcode := .badCmd }) = some 0x52 := by decide

/-! ## The host's events -/

theorem test_reset_event : step { afterV1 with pending := [.reset] } = .next State.reset := rfl
theorem test_reset_beats_write : step { afterV1 with pending := [.resetWithRequest ⟨0x28, .write 0x1⟩] } =
    .next { State.reset with response := some .done } := rfl

/-! ## The text form (R81, R82; lines of the programs of spec/95) -/

theorem test_asm_keygen : assembleLine "CMD KEYGEN, 16 ; refused".toList = some [⟨0x28, .write 0x1004⟩] := by decide
theorem test_asm_raw : assembleLine "WR @0x28, 0x1_0007".toList = some [⟨0x28, .write 0x10007⟩] := by decide
theorem test_asm_rdKey : assembleLine "RD KEY[15]".toList = some [⟨0xF8, .read⟩] := by decide
theorem test_asm_setUid : assembleLine "SETUID 0xDE, 0xAD, 0xBE, 0xEF".toList = some [⟨0x40, .write 0xEFBEADDE⟩] := by
  decide
theorem test_asm_config : assembleLine "CONFIG 16, 0x1021, 0xFFFF, 1".toList =
    some [⟨0x00, .write 0x110⟩, ⟨0x08, .write 0x1021⟩, ⟨0x10, .write 0xFFFF⟩] := by decide
theorem test_asm_checksum16 : assembleLine "CHECKSUM16 0x31".toList =
    some [⟨0x28, .write 3⟩, ⟨0x00, .write 0x110⟩, ⟨0x28, .write 1⟩, ⟨0x20, .write 0x31⟩, ⟨0x30, .read⟩] := by decide
theorem test_asm_text : assembleLine "FEEDS \"12\"".toList = some [⟨0x20, .write 0x31⟩, ⟨0x20, .write 0x32⟩] := by decide
theorem test_asm_badByte : assembleLine "FEED 256".toList = none := by decide
theorem test_checksumOrder : checksumOrderKept checksumOrder = true ∧ checksumOrderKept [3, 4] = false := by decide

/-! ## Witnesses: for each statement with hypotheses, a state and operands that meet them, at the ends of their ranges -/

/-- The state `s` in which the host's next event is `e`. -/
def hostNext (e : HostEvent) (s : State) : State := { s with pending := [e] }

theorem witness_DecodeOfEncodeIsIdentity_ByteImageRoundTrips :
    wellFormed (.errUnmapped 0x78 .read) = true ∧ wellFormed (.errMisaligned 0xFF .read) = true ∧
      wellFormed (.errWrRo (.key 15) 0) = true ∧ wellFormed (.errRdWo .data) = true ∧
      wellFormed (.errCmdUnknown 0x07 0 0) = true ∧ ([] : List Byte).length ≠ 10 := by decide

theorem witness_StepRunsDecodedTransaction :
    (hostNext (.request ⟨0x00, .read⟩) State.reset).pending = .request ⟨0x00, .read⟩ :: [] := rfl

theorem witness_StepWithNothingPendingKeepsState : State.reset.pending = [] := rfl

theorem witness_ResetGivesResetValues :
    resetsNext (hostNext .reset afterV1) ∧ resetsNext (hostNext (.resetWithRequest ⟨0x28, .write 1⟩) afterV1) :=
  ⟨⟨_, _, rfl, rfl⟩, ⟨_, _, rfl, rfl⟩⟩

theorem witness_ResetWinsOverTransaction :
    (hostNext (.resetWithRequest ⟨0x18, .read⟩) afterV1).pending = .resetWithRequest ⟨0x18, .read⟩ :: [] ∧
      (⟨0x18, .read⟩ : Transaction).access = .read ∧ (⟨0x20, .write 1⟩ : Transaction).access = .write 1 :=
  ⟨rfl, rfl, rfl⟩

/-- A state with an open stream, a recorded error and a stream register that fits. -/
def busyState : State := { hostNext (.request ⟨0x20, .write 0xFF⟩) openState with err := true, errcode := .badAddr }

theorem witness_StepKeepsInvariant : Inv busyState ∧ ∃ s', step busyState = .next s' := by
  refine ⟨⟨by decide, by unfold errConsistent; decide, by unfold openRegFits; decide, ?_⟩, _, rfl⟩
  intro k h
  have : busyState.kvalid.getLsbD k.val = false := by revert k; decide
  rw [this] at h
  cases h

theorem witness_ConfigurationOperationsComplete : (8 : BitVec 7) ∈ legalWidths ∧ (64 : BitVec 7) ∈ legalWidths := by decide

theorem witness_StreamOperationsComplete : openState.active = true := rfl

theorem witness_KeyOperationsComplete :
    (0x00 : Byte).toNat = (0 : Sector).val ∧ (0x0F : Byte).toNat = (15 : Sector).val ∧ (0 : Sector) ≠ 15 := by decide

theorem witness_IllegalOperationsRecordTheirCode : (1 : BitVec 48) ≠ 0 := by decide

theorem witness_BusWriteOfCtrl :
    (0x80 : Word).getLsbD 7 = true ∧ (0x200 : Word).toNat / 2 ^ 9 ≠ 0 ∧
      ((0x148 : Word).getLsbD 7 = false ∧ (0x148 : Word).toNat / 2 ^ 9 = 0 ∧
        (0x148 : Word).toNat % 128 ∉ [8, 16, 24, 32, 40, 48, 56, 64]) ∧
      ((0x140 : Word).getLsbD 7 = false ∧ (0x140 : Word).toNat / 2 ^ 9 = 0 ∧
        (0x140 : Word).toNat % 128 ∈ [8, 16, 24, 32, 40, 48, 56, 64]) := by decide

theorem witness_BusWriteOfData :
    256 ≤ (0x100 : Word).toNat ∧ ((0xFF : Word).toNat < 256 ∧ State.reset.active = false) ∧
      ((0xFF : Word).toNat < 256 ∧ openState.active = true) := by decide

theorem witness_BusWriteOfCmdChecksInOrder :
    (1 : BitVec 48) ≠ 0 ∧ ((0 : BitVec 48) = 0 ∧ ((0x00 : Byte).toNat = 0 ∨ 6 < (0x00 : Byte).toNat)) ∧
      6 < (0x07 : Byte).toNat ∧
      (1 ≤ (0x01 : Byte).toNat ∧ (0x06 : Byte).toNat ≤ 6 ∧ (0x06 : Byte).toNat ≠ 4 ∧ (1 : Byte) ≠ 0) ∧
      ((0x04 : Byte).toNat = 4 ∧ 15 < (0x10 : Byte).toNat) := by decide

theorem witness_BusWriteOfUid :
    2 ^ 32 ≤ (0x100000000 : Word).toNat ∧ (0xFFFFFFFF : Word).toNat < 2 ^ 32 := by decide

theorem witness_ReadsChangeOnlyErrorStatus :
    (0x01 : Byte).toNat % 8 ≠ 0 ∧ (0x50 ≤ (0x78 : Byte).toNat ∧ (0x78 : Byte).toNat ≤ 0x7F) ∧
      (0x28 : Byte).toNat = 0x28 ∧
      (∀ a ∈ [0x48#8, 0x80#8, 0xF8#8], a.toNat % 8 = 0 ∧ a.toNat ≠ 0x20 ∧ a.toNat ≠ 0x28 ∧
        (a.toNat < 0x50 ∨ 0x80 ≤ a.toNat)) := by decide

theorem witness_IllegalWritesRecordTheirCode :
    (0xFF : Byte).toNat % 8 ≠ 0 ∧ (0x50 ≤ (0x50 : Byte).toNat ∧ (0x50 : Byte).toNat ≤ 0x7F) ∧
      (∀ a ∈ [0x18#8, 0x48#8, 0x80#8, 0xF8#8], a.toNat % 8 = 0 ∧
        (a.toNat = 0x18 ∨ a.toNat = 0x30 ∨ a.toNat = 0x38 ∨ a.toNat = 0x48 ∨ 0x80 ≤ a.toNat)) := by decide

theorem witness_RegisterWritesAreIdempotent :
    transactionError ⟨0x00, .write 0x140⟩ openState = .none ∧ ∃ t, busWrite 0x00 0x140 openState = .next t :=
  ⟨by decide, _, rfl⟩

theorem witness_RefusedTransactionOnlyRecordsFirstError :
    transactionError ⟨0x20, .write 0x100⟩ openState = .rsvd ∧ transactionError ⟨0x20, .write 0x31⟩ State.reset = .notActive ∧
      transactionError ⟨0x28, .write 0x1004⟩ State.reset = .badSector ∧
      transactionError ⟨0x28, .write 0x10007⟩ State.reset = .rsvd ∧ transactionError ⟨0x21, .read⟩ State.reset = .badAddr := by
  decide

theorem witness_AcceptedTransactionRecordsNoError :
    (transactionError ⟨0x28, .write 0x0F04⟩ State.reset = .none ∧ (decode ⟨0x28, .write 0x0F04⟩).mnemonic ≠ .CMD_CLRERR) ∧
      (transactionError ⟨0x28, .write 0x6⟩ State.reset = .none ∧ (decode ⟨0x28, .write 0x6⟩).mnemonic = .CMD_CLRERR) := by
  decide

theorem witness_FirstErrorIsKept :
    busyState.err = true ∧
      (∀ t ∈ [(⟨0x28, .write 0x106⟩ : Transaction)], (decode t).mnemonic = .CMD_CLRERR → transactionError t busyState ≠ .none) ∧
      ∃ s', runSteps 1 (withRequests [⟨0x28, .write 0x106⟩] busyState) = .next s' := by
  refine ⟨rfl, by decide, _, rfl⟩

/-- ACTIVE set by START, cleared by WR_POLY, by a refused FEED and by reset. -/
theorem witness_OnlyListedOperationsChangeActive :
    shown (·.active) (step (hostNext (.request ⟨0x28, .write 1⟩) State.reset)) = some true ∧
      shown (·.active) (step (hostNext (.request ⟨0x08, .write 0⟩) openState)) = some false ∧
      shown (·.active) (step (hostNext (.request ⟨0x20, .write 0x100⟩) openState)) = some false ∧
      shown (·.active) (step (hostNext .reset openState)) = some false := by decide

theorem witness_OnlyStartFeedAndResetWriteReg :
    shown (·.reg) (step (hostNext (.request ⟨0x28, .write 1⟩) State.reset)) = some 0xFFFF ∧
      (hostNext (.request ⟨0x28, .write 1⟩) State.reset).reg = 0 ∧
      legalWidth (hostNext (.request ⟨0x28, .write 1⟩) State.reset).ctrlWidth = true ∧
      acceptsNext [.CMD_START, .FEED] (hostNext (.request ⟨0x28, .write 1⟩) State.reset) :=
  ⟨by decide, by decide, by decide, _, _, rfl, by decide, by decide⟩

theorem witness_OnlyListedOperationsWriteConfiguration :
    ¬ resetsNext (hostNext (.request ⟨0x00, .write 0x140⟩) State.reset) ∧
      shown (fun s => (s.ctrlWidth, s.ctrlOrder)) (step (hostNext (.request ⟨0x00, .write 0x140⟩) State.reset)) =
        some (64, .little) ∧
      shown (·.poly) (step (hostNext (.request ⟨0x08, .write 7⟩) State.reset)) = some 7 ∧
      shown (·.initVal) (step (hostNext (.request ⟨0x10, .write 7⟩) State.reset)) = some 7 := by
  refine ⟨?_, by decide, by decide, by decide⟩
  rintro ⟨e, rest, h, hr⟩
  cases h
  simp [isReset] at hr

theorem witness_OnlyListedOperationsWriteUidAndKeys :
    shown (·.uid) (step (hostNext (.request ⟨0x40, .write 7⟩) State.reset)) = some 7 ∧
      shown (fun s => s.keys[0]) (step (hostNext (.request ⟨0x28, .write 0x0004⟩)
        { State.reset with keys := Vector.replicate 16 (~~~(pack Config.sector0Key.toList).setWidth 48) })) =
        some ((pack Config.sector0Key.toList).setWidth 48) := ⟨by decide, rfl⟩

theorem witness_KvalidBitIsSetExactlyByKeygen :
    shown (fun s => s.kvalid.getLsbD 15) (step (hostNext (.request ⟨0x28, .write 0x0F04⟩) State.reset)) = some true ∧
      shown (fun s => s.kvalid.getLsbD 0) (step (hostNext (.request ⟨0x40, .write 0⟩) { State.reset with kvalid := 0xFFFF })) =
        some false ∧
      shown (fun s => s.kvalid.getLsbD 0) (step (hostNext (.request ⟨0x08, .write 0⟩) { State.reset with kvalid := 0xFFFF })) =
        some true := by decide

/-- For the statements over the legal widths. -/
theorem witness_legalWidths_arithmetic :
    (8 : BitVec 7) ∈ legalWidths ∧ (64 : BitVec 7) ∈ legalWidths ∧ ([0x31] : ByteString).length = [0xFF#8].length := by decide

theorem witness_SwapAndPackIdentities : 8 ≤ 8 ∧ (digits.take 8).length ≤ 8 := by decide

/-- A zero polynomial at width 8 that has a bit above the width. -/
theorem witness_ZeroPolynomialOnlyShifts : (8 : BitVec 7) ∈ legalWidths ∧ (0x100 : Word) &&& mask (8 : BitVec 7).toNat = 0 := by
  decide

theorem witness_OutWordFollowsOrder_OrderChangeRereadsResult :
    legalWidth afterV1.ctrlWidth = true ∧ afterV1.ctrlOrder = .big ∧
      ({ afterV1 with ctrlOrder := .little, ctrlWidth := 64 } : State).ctrlOrder = .little ∧
      legalWidth ({ afterV1 with ctrlOrder := .little, ctrlWidth := 64 } : State).ctrlWidth = true := by decide

theorem witness_KeyWordIsFinalCrcRegister_EngineCrossChecksKeygen : (1 : Sector) ≠ 0 ∧ (15 : Sector) ≠ 0 ∧ (0 : Sector) = 0 := by
  decide

theorem witness_StreamComputesCrcOfFedBytes :
    (∃ s', step busyState = .next s' ∧ busyState.active = true ∧ s'.active = true) ∧
      (∀ t ∈ [(⟨0x20, .write 0x31⟩ : Transaction), ⟨0x30, .read⟩, ⟨0x28, .write 0x104⟩, ⟨0x40, .write 0⟩, ⟨0x21, .write 5⟩],
        streamOperation (decode t) = true) ∧ busyState.ctrlOrder = .big := ⟨⟨_, rfl, rfl, rfl⟩, by decide, rfl⟩

theorem witness_KeygenAllEqualsSixteenKeygens : (List.finRange 16).reverse.Perm (List.finRange 16) := List.reverse_perm _

theorem witness_KeyCommandsIndependentOfEngine :
    (Instr.cmdKeygen 16 0).mnemonic ∈ [Mnemonic.CMD_KEYGEN, .CMD_KEYGEN_ALL] ∧ State.reset.uid = afterV1.uid ∧
      State.reset.keys = afterV1.keys ∧ State.reset.kvalid = afterV1.kvalid ∧ State.reset.reg ≠ afterV1.reg ∧
      decode ⟨0x28, .write 0x0F04⟩ = .cmdKeygen 15 0 ∧ transactionError ⟨0x28, .write 0x0F04⟩ State.reset = .none := by decide

theorem witness_ClosedStreamStaysClosedUntilStart :
    State.reset.active = false ∧
      (∀ t ∈ [(⟨0x28, .write 0x101⟩ : Transaction), ⟨0x20, .write 0x31⟩],
        (decode t).mnemonic = .CMD_START → transactionError t State.reset ≠ .none) := by decide

theorem witness_FeedAfterReconfigurationIsRefused :
    (∀ t ∈ [(⟨0x00, .write 0x08⟩ : Transaction), ⟨0x28, .write 2⟩],
      (decode t).mnemonic ∈ [Mnemonic.WR_CTRL, .WR_POLY, .WR_INIT, .CMD_PRESET48, .CMD_PRESET16] ∧
        transactionError t openState = .none) := by decide

end Sys2Proof.Tests
end

section
/-! PROOFS, of the scope rules (spec/00_scope.md): byte strings against words (R10, R12, R105), and the step in which the
host does nothing (log 2). -/

namespace Sys2Proof.Machine

/-! ## Byte strings as words -/

@[simp] theorem length_unpack (n : Nat) (v : Word) : (unpack n v).length = n := by simp [unpack]

@[simp] theorem getElem_beBytes (n : Nat) (v : Word) (i : Nat) (h : i < (beBytes n v).length) :
    (beBytes n v)[i] = v.extractLsb' (8 * (n - 1 - i)) 8 := by simp [beBytes]

@[simp] theorem getElem_leBytes (n : Nat) (v : Word) (i : Nat) (h : i < (leBytes n v).length) :
    (leBytes n v)[i] = v.extractLsb' (8 * i) 8 := by simp [leBytes]

@[simp] theorem getElem_unpack (n : Nat) (v : Word) (i : Nat) (h : i < (unpack n v).length) :
    (unpack n v)[i] = v.extractLsb' (8 * i) 8 := by simp [unpack]

/-- Byte `i` of the reversal is byte `n - 1 - i` of `BE_n(v)`, which holds the bits from `8 * i` up. -/
theorem swap_beBytes (n : Nat) (v : Word) : swap (beBytes n v) = leBytes n v := by
  refine List.ext_getElem (by simp [swap]) fun i _ hi => ?_
  have hn : i < n := by simpa using hi
  have hflip : n - 1 - (n - 1 - i) = i := by omega
  simp [swap, hflip]

/-- Below `8 * n`, bit `i` of the word is bit `i % 8` of byte `i / 8`; from `8 * n` up the string has no byte. -/
theorem pack_leBytes (n : Nat) (v : Word) : pack (leBytes n v) = v &&& mask (8 * n) := by
  refine BitVec.eq_of_getLsbD_eq fun i hi => ?_
  rw [getLsbD_pack _ _ hi, BitVec.getLsbD_and, getLsbD_mask]
  by_cases hn : i / 8 < n
  · have hbit : 8 * (i / 8) + i % 8 = i := Nat.div_add_mod i 8
    have hlt : i < 8 * n := by omega
    simp [hn, hi, hlt, hbit, Nat.mod_lt]
  · have hge : ¬ i < 8 * n := by omega
    simp [hn, hge]

/-- A word holds eight bytes, so a string of at most eight bytes loses none of them (R12). -/
theorem unpack_pack {s : ByteString} (h : s.length ≤ 8) : unpack s.length (pack s) = s := by
  refine List.ext_getElem (by simp) fun i _ hi => ?_
  rw [getElem_unpack]
  refine BitVec.eq_of_getLsbD_eq fun j hj => ?_
  have hword : 8 * i + j < 64 := by omega
  have hbyte : (8 * i + j) / 8 = i := by omega
  have hbit : (8 * i + j) % 8 = j := by omega
  rw [BitVec.getLsbD_extractLsb', getLsbD_pack _ _ hword, hbyte, hbit]
  simp [hj, hi]

/-- The two byte orders of R104 are each other's reversal. -/
theorem swap_serialize_big (w : Nat) (r : Word) : swap (serialize w .big r) = serialize w .little r :=
  swap_beBytes (w / 8) (r &&& mask w)

/-- Settles O37: the four identities of R10, R12 and R105. -/
theorem swapAndPackIdentities : Obligations.SwapAndPackIdentities :=
  ⟨swap_beBytes, fun n v _ => pack_leBytes n v, fun _ => unpack_pack,
    fun spec input => swap_serialize_big _ (crcReg spec.width.toNat spec.poly spec.initVal input)⟩

/-! ## The step in which the host does nothing -/

theorem step_of_nextEvent_eq_none {s : State} (h : s.nextEvent = none) : step s = .next s := by
  rw [step, h, State.idle]

/-- Settles O7: with no event pending the step takes its idle branch. -/
theorem stepWithNothingPendingKeepsState : Obligations.StepWithNothingPendingKeepsState :=
  fun s h => step_of_nextEvent_eq_none ((State.nextEvent_eq_none_iff s).mpr h)

end Sys2Proof.Machine
end

section
/-! PROOFS, the layer of one operation and one step: the register map (R51), the error of a decoded operation (R195), what
an accepted and what a refused operation do (R193, R194), and what a step can be (R54, R57, R61, R220). -/

namespace Sys2Proof.Machine

/-! ## The register map -/

theorem misaligned_iff (addr : Byte) : misaligned addr = true ↔ addr.toNat % 8 ≠ 0 := by
  simp [misaligned, ← BitVec.toNat_inj]

theorem misaligned_eq_false {addr : Byte} (h : addr.toNat % 8 = 0) : misaligned addr = false := by
  rw [← Bool.not_eq_true, misaligned_iff, not_not, h]

theorem registerAt_of_unmapped : ∀ addr ∈ unmappedOffsets, registerAt addr = none := by decide

theorem mem_unmappedOffsets {addr : Byte} (hm : addr.toNat % 8 = 0) (hlo : 0x50 ≤ addr.toNat)
    (hhi : addr.toNat ≤ 0x7F) : addr ∈ unmappedOffsets := by
  have haddr : addr.toNat = 0x50 ∨ addr.toNat = 0x58 ∨ addr.toNat = 0x60 ∨ addr.toNat = 0x68 ∨ addr.toNat = 0x70 ∨
      addr.toNat = 0x78 := by omega
  simpa [unmappedOffsets, ← BitVec.toNat_inj] using haddr

theorem registerAt_of_key {addr : Byte} (h : 0x80 ≤ addr.toNat) :
    registerAt addr = some (.key (sectorOfOffset addr)) := by
  have hmsb : addr.getLsbD 7 = true := by
    rw [← BitVec.msb_eq_getLsbD_last addr, BitVec.msb_eq_decide]
    exact decide_eq_true h
  simp [registerAt, hmsb]

/-- The read-only registers of R51 by their offsets. -/
theorem exists_readOnly_register {addr : Byte}
    (h : addr.toNat = 0x18 ∨ addr.toNat = 0x30 ∨ addr.toNat = 0x38 ∨ addr.toNat = 0x48 ∨ 0x80 ≤ addr.toNat) :
    ∃ r, registerAt addr = some r ∧ r.hostAccess = .readOnly := by
  have named {a : Byte} (ha : addr.toNat = a.toNat) : addr = a := BitVec.eq_of_toNat_eq ha
  obtain h | h | h | h | h := h
  · exact ⟨.reg, by rw [named (a := 0x18) h]; rfl, rfl⟩
  · exact ⟨.out, by rw [named (a := 0x30) h]; rfl, rfl⟩
  · exact ⟨.status, by rw [named (a := 0x38) h]; rfl, rfl⟩
  · exact ⟨.kvalid, by rw [named (a := 0x48) h]; rfl, rfl⟩
  · exact ⟨_, registerAt_of_key h, rfl⟩

theorem decode_of_misaligned {addr : Byte} (h : misaligned addr = true) (a : Access) :
    decode ⟨addr, a⟩ = .errMisaligned addr a := by
  simp [decode, h]

theorem decode_of_unmapped {addr : Byte} (hm : misaligned addr = false) (hr : registerAt addr = none) (a : Access) :
    decode ⟨addr, a⟩ = .errUnmapped addr a := by
  simp [decode, hm, hr]

theorem decode_read_of_register {addr : Byte} {r : Register} (hm : misaligned addr = false)
    (hr : registerAt addr = some r) : decode ⟨addr, .read⟩ = decodeRead r := by
  simp [decode, hm, hr]

theorem decode_write_of_register {addr : Byte} {r : Register} (hm : misaligned addr = false)
    (hr : registerAt addr = some r) (v : Word) : decode ⟨addr, .write v⟩ = decodeWrite r v := by
  simp [decode, hm, hr]

theorem decodeWrite_of_readOnly {r : Register} (h : r.hostAccess = .readOnly) (v : Word) :
    decodeWrite r v = .errWrRo r v := by
  cases r with
  | ctrl | poly | initVal | data | cmd | uid => cases h
  | _ => rfl

/-! ## The error of an operation -/

/-- The error a decoded operation raises, NONE where it is accepted: the checks of each operation's rule, in order. -/
def operationError (s : State) : Instr → ErrCode
  | .errMisaligned _ _ | .errUnmapped _ _ => .badAddr
  | .errWrRo _ _ | .errRdWo _ => .badAccess
  | .errCmdUnknown _ _ rsv => if rsv = 0 then .badCmd else .rsvd
  | .wrCtrl w r7 _ rHi => if ctrlReservedZero r7 rHi then (if legalWidth w then .none else .badWidth) else .rsvd
  | .feed _ rsv => if rsv = 0 then (if s.active then .none else .notActive) else .rsvd
  | .cmdStart arg rsv | .cmdPreset48 arg rsv | .cmdPreset16 arg rsv | .cmdKeygenAll arg rsv | .cmdClrerr arg rsv =>
    if noArgument arg rsv then .none else .rsvd
  | .cmdKeygen arg rsv => if rsv = 0 then (if (sectorOfArg arg).isSome then .none else .badSector) else .rsvd
  | .wrUid _ rsv => if rsv = 0 then .none else .rsvd
  | .rdCtrl | .rdPoly | .wrPoly _ | .rdInit | .wrInit _ | .rdReg | .rdOut | .rdStatus | .rdUid | .rdKvalid
  | .rdKey _ => .none

/-- The one element of the state an error depends on is ACTIVE. -/
theorem operationError_congr {s s' : State} (h : s'.active = s.active) (i : Instr) :
    operationError s' i = operationError s i := by
  cases i with
  | feed b rsv => simp [operationError, h]
  | _ => rfl

theorem operationError_decodeRead (s : State) (r : Register) :
    operationError s (decodeRead r) = if r.hostAccess = .writeOnly then .badAccess else .none := by
  cases r <;> rfl

theorem operationError_decodeCtrlWord (s : State) (v : Word) :
    operationError s (decodeCtrlWord v) = writeError .ctrl v s := by
  simp only [decodeCtrlWord, operationError, writeError, ctrlReservedZero_iff, legalWidth_iff, ne_eq,
    ← not_and_or, ite_not]

theorem sectorOfArg_isSome_iff (arg : Byte) : (sectorOfArg arg).isSome = true ↔ ¬ 15 < arg.toNat := by
  rw [← sectorOfArg_eq_none_iff, ← Option.ne_none_iff_isSome]

/-- Of the seven arms of R76, the fourth is KEYGEN, whose ARG is a sector, and the last an unknown OP. -/
theorem operationError_decodeCmdWord (s : State) (v : Word) : operationError s (decodeCmdWord v) = cmdError v := by
  unfold decodeCmdWord cmdError
  dsimp only
  split <;> rename_i hop
  case h_4 =>
    generalize v.extractLsb' 8 8 = arg
    by_cases hk : 15 < arg.toNat <;> simp [operationError, commandCodes, hop, sectorOfArg_isSome_iff, hk, ite_not]
  case h_7 => simp_all [operationError, commandCodes, ite_not]
  all_goals simp [operationError, noArgument_iff, commandCodes, hop, ite_and, ite_not]

theorem operationError_decodeWrite (s : State) (r : Register) (v : Word) :
    operationError s (decodeWrite r v) = if r.hostAccess = .readOnly then .badAccess else writeError r v s := by
  cases r with
  | ctrl => exact operationError_decodeCtrlWord s v
  | cmd => exact operationError_decodeCmdWord s v
  | data => simp [decodeWrite, operationError, writeError, Register.hostAccess]
  | uid => simp [decodeWrite, operationError, writeError, Register.hostAccess]
  | _ => rfl

/-- The checks of the decoded operation are the checks of R195 over the raw transaction. -/
theorem operationError_decode (s : State) (t : Transaction) : operationError s (decode t) = transactionError t s := by
  obtain ⟨addr, a⟩ := t
  unfold transactionError
  cases hm : misaligned addr with
  | true => rw [decode_of_misaligned hm, if_pos ((misaligned_iff addr).mp hm)]; rfl
  | false =>
    have haligned : ¬ addr.toNat % 8 ≠ 0 := by rw [← misaligned_iff, hm]; decide
    rw [if_neg haligned]
    cases hr : registerAt addr with
    | none => rw [decode_of_unmapped hm hr]; rfl
    | some r =>
      cases a with
      | read => rw [decode_read_of_register hm hr]; exact operationError_decodeRead s r
      | write v => rw [decode_write_of_register hm hr]; exact operationError_decodeWrite s r v

theorem operationError_decode_pending (s : State) (t : Transaction) (rest : List HostEvent) :
    operationError { s with pending := rest } (decode t) = transactionError t s :=
  (operationError_congr rfl _).trans (operationError_decode s t)

/-! ## What an operation does -/

/-- The word a read of a register answers; the write-only registers have none, and their reads are refused (R51, R184). -/
def State.readWord (s : State) : Register → Word
  | .ctrl => s.ctrlWord
  | .poly => s.poly
  | .initVal => s.initVal
  | .reg => s.reg
  | .data | .cmd => 0
  | .out => s.outWord
  | .status => s.statusWord
  | .uid => s.uidWord
  | .kvalid => s.kvalidWord
  | .key k => s.keyWord k

/-- What an operation that raises no error does, by operation. -/
inductive Accepted (s : State) : Instr → State → Prop
  | read (r : Register) (hr : r.hostAccess ≠ .writeOnly) : Accepted s (decodeRead r) (s.answerRead (s.readWord r))
  | wrCtrl (w : BitVec 7) (o : ByteOrder) (hw : legalWidth w = true) :
      Accepted s (.wrCtrl w 0 o 0) (s.setCtrl w o).closeStream.answerWrite
  | wrPoly (v : Word) : Accepted s (.wrPoly v) (s.setPoly v).closeStream.answerWrite
  | wrInit (v : Word) : Accepted s (.wrInit v) (s.setInit v).closeStream.answerWrite
  | preset48 : Accepted s (.cmdPreset48 0 0) (s.loadSpec crc48Spec).closeStream.answerWrite
  | preset16 : Accepted s (.cmdPreset16 0 0) (s.loadSpec crc16Spec).closeStream.answerWrite
  | start : Accepted s (.cmdStart 0 0) (s.setReg s.startValue).openStream.answerWrite
  | feed (b : Byte) (hactive : s.active = true) : Accepted s (.feed b 0) (s.setReg (s.fedReg b)).answerWrite
  | wrUid (u : BitVec 32) : Accepted s (.wrUid u 0) (s.setUid u).answerWrite
  | keygen (arg : Byte) (k : Sector) (hk : arg.toNat = k.val) :
      Accepted s (.cmdKeygen arg 0) (s.setKey k (deriveKey s.uid k)).answerWrite
  | keygenAll : Accepted s (.cmdKeygenAll 0 0) (s.setKeys (deriveKey s.uid)).answerWrite
  | clrerr : Accepted s (.cmdClrerr 0 0) s.clearError.answerWrite

/-- The state after an operation that raises an error: the error is recorded, and a FEED refused for its reserved field
closes the stream too (R193, R194). -/
def refusal (i : Instr) (s : State) : State :=
  { refused (operationError s i) (encode i).access s with
    active := if i.mnemonic = .FEED ∧ operationError s i = .rsvd then false else s.active }

/-- Where the stream stays as it is, a refusal is `refused` alone. -/
theorem refusal_eq_refused {i : Instr} {s : State} {c : ErrCode} (hc : operationError s i = c)
    (hfeed : i.mnemonic = .FEED → c ≠ .rsvd) : refusal i s = refused c (encode i).access s := by
  subst hc
  unfold refusal
  rw [if_neg fun h => hfeed h.1 h.2]
  rfl

/-- A check that raises `d` where `p` fails passes exactly when `p` holds and the next check passes. -/
theorem check_eq_none_iff {p : Prop} [Decidable p] {c d : ErrCode} (hd : d ≠ .none) :
    (if p then c else d) = .none ↔ p ∧ c = .none := by
  by_cases hp : p <;> simp [hp, hd]

theorem eq_zero_of_argument_check {arg : Byte} {rsv : BitVec 48}
    (h : (if noArgument arg rsv then .none else .rsvd) = ErrCode.none) : rsv = 0 ∧ arg = 0 :=
  (noArgument_iff arg rsv).mp ((check_eq_none_iff (by decide)).mp h).1

/-- An operation that raises no error has exactly its own effect. -/
theorem exec_of_accepted {i : Instr} {s : State} (h : operationError s i = .none) :
    ∃ s', exec i s = .next s' ∧ Accepted s i s' := by
  cases i with
  | errMisaligned | errUnmapped | errWrRo | errRdWo => cases h
  | errCmdUnknown op arg rsv => simp [operationError, check_eq_none_iff] at h
  | rdCtrl => exact ⟨_, rfl, .read .ctrl nofun⟩
  | rdPoly => exact ⟨_, rfl, .read .poly nofun⟩
  | rdInit => exact ⟨_, rfl, .read .initVal nofun⟩
  | rdReg => exact ⟨_, rfl, .read .reg nofun⟩
  | rdOut => exact ⟨_, rfl, .read .out nofun⟩
  | rdStatus => exact ⟨_, rfl, .read .status nofun⟩
  | rdUid => exact ⟨_, rfl, .read .uid nofun⟩
  | rdKvalid => exact ⟨_, rfl, .read .kvalid nofun⟩
  | rdKey k => exact ⟨_, rfl, .read (.key k) nofun⟩
  | wrPoly v => exact ⟨_, rfl, .wrPoly v⟩
  | wrInit v => exact ⟨_, rfl, .wrInit v⟩
  | wrCtrl w r7 o rHi =>
    obtain ⟨⟨rfl, rfl⟩, hw⟩ : (r7 = 0 ∧ rHi = 0) ∧ legalWidth w = true := by
      simpa [operationError, check_eq_none_iff, ctrlReservedZero_iff] using h
    exact ⟨_, if_pos hw, .wrCtrl w o hw⟩
  | feed b rsv =>
    obtain ⟨rfl, hactive⟩ : rsv = 0 ∧ s.active = true := by
      simpa [operationError, check_eq_none_iff] using h
    exact ⟨_, if_pos hactive, .feed b hactive⟩
  | wrUid u rsv =>
    obtain rfl : rsv = 0 := by simpa [operationError, check_eq_none_iff] using h
    exact ⟨_, rfl, .wrUid u⟩
  | cmdKeygen arg rsv =>
    obtain ⟨rfl, k, hk⟩ : rsv = 0 ∧ ∃ k, sectorOfArg arg = some k := by
      simpa [operationError, check_eq_none_iff, Option.isSome_iff_exists] using h
    exact ⟨_, by simp [exec, execCmdKeygen, hk], .keygen arg k ((sectorOfArg_eq_some_iff arg k).mp hk)⟩
  | cmdStart arg rsv =>
    obtain ⟨rfl, rfl⟩ := eq_zero_of_argument_check h
    exact ⟨_, rfl, .start⟩
  | cmdPreset48 arg rsv =>
    obtain ⟨rfl, rfl⟩ := eq_zero_of_argument_check h
    exact ⟨_, rfl, .preset48⟩
  | cmdPreset16 arg rsv =>
    obtain ⟨rfl, rfl⟩ := eq_zero_of_argument_check h
    exact ⟨_, rfl, .preset16⟩
  | cmdKeygenAll arg rsv =>
    obtain ⟨rfl, rfl⟩ := eq_zero_of_argument_check h
    exact ⟨_, rfl, .keygenAll⟩
  | cmdClrerr arg rsv =>
    obtain ⟨rfl, rfl⟩ := eq_zero_of_argument_check h
    exact ⟨_, rfl, .clrerr⟩

/-- The shape of every refusal that leaves the stream alone. -/
theorem exec_eq_refusal {i : Instr} {s : State} {c : ErrCode} (hc : operationError s i = c)
    (hfeed : i.mnemonic = .FEED → c ≠ .rsvd) (he : exec i s = .next (refused c (encode i).access s)) :
    exec i s = .next (refusal i s) := by
  rw [he, refusal_eq_refused hc hfeed]

/-- An operation that raises an error only records it. -/
theorem exec_of_refused {i : Instr} {s : State} (h : operationError s i ≠ .none) :
    exec i s = .next (refusal i s) := by
  cases i with
  | rdCtrl | rdPoly | rdInit | rdReg | rdOut | rdStatus | rdUid | rdKvalid | rdKey | wrPoly | wrInit =>
    exact absurd rfl h
  | errMisaligned addr a => cases a <;> rfl
  | errUnmapped addr a => cases a <;> rfl
  | errWrRo | errRdWo => rfl
  | errCmdUnknown op arg rsv =>
    by_cases hrsv : rsv = 0
    · exact exec_eq_refusal (if_pos hrsv) nofun (if_pos hrsv)
    · exact exec_eq_refusal (if_neg hrsv) nofun (if_neg hrsv)
  | wrUid u rsv =>
    have hrsv : rsv ≠ 0 := fun hrsv => h (if_pos hrsv)
    exact exec_eq_refusal (if_neg hrsv) nofun (if_neg hrsv)
  | wrCtrl w r7 o rHi =>
    by_cases hrsv : ctrlReservedZero r7 rHi = true
    · have hw : ¬ legalWidth w = true := fun hw => h ((if_pos hrsv).trans (if_pos hw))
      exact exec_eq_refusal ((if_pos hrsv).trans (if_neg hw)) nofun ((if_pos hrsv).trans (if_neg hw))
    · exact exec_eq_refusal (if_neg hrsv) nofun (if_neg hrsv)
  | feed b rsv =>
    by_cases hrsv : rsv = 0
    · have hactive : ¬ s.active = true := fun ha => h ((if_pos hrsv).trans (if_pos ha))
      exact exec_eq_refusal ((if_pos hrsv).trans (if_neg hactive)) nofun ((if_pos hrsv).trans (if_neg hactive))
    · have hc : operationError s (.feed b rsv) = .rsvd := if_neg hrsv
      have hclosed : refusal (.feed b rsv) s = s.closeStream.refuseWrite .rsvd := by
        unfold refusal
        rw [if_pos ⟨rfl, hc⟩, hc]
        rfl
      rw [hclosed]
      exact if_neg hrsv
  | cmdKeygen arg rsv =>
    by_cases hrsv : rsv = 0
    · have hk : ¬ (sectorOfArg arg).isSome = true := fun hk => h ((if_pos hrsv).trans (if_pos hk))
      refine exec_eq_refusal ((if_pos hrsv).trans (if_neg hk)) nofun ((if_pos hrsv).trans ?_)
      rw [Option.not_isSome_iff_eq_none.mp hk]
      rfl
    · exact exec_eq_refusal (if_neg hrsv) nofun (if_neg hrsv)
  | cmdStart arg rsv | cmdPreset48 arg rsv | cmdPreset16 arg rsv | cmdKeygenAll arg rsv | cmdClrerr arg rsv =>
    have harg : ¬ noArgument arg rsv = true := fun harg => h (if_pos harg)
    exact exec_eq_refusal (if_neg harg) nofun (if_neg harg)

/-- What an operation can do: its own effect where it raises no error, its refusal where it raises one. -/
theorem exec_cases {i : Instr} {s s' : State} (h : exec i s = .next s') :
    (operationError s i = .none ∧ Accepted s i s') ∨ (operationError s i ≠ .none ∧ s' = refusal i s) := by
  by_cases herr : operationError s i = .none
  · obtain ⟨t, ht, hacc⟩ := exec_of_accepted herr
    obtain rfl : t = s' := by simpa [ht] using h
    exact .inl ⟨herr, hacc⟩
  · exact .inr ⟨herr, by simpa [exec_of_refused herr] using h.symm⟩

/-! ## What a step does -/

theorem step_of_pending_cons {s : State} {e : HostEvent} {rest : List HostEvent} (h : s.pending = e :: rest) :
    step s = stepEvent e { s with pending := rest } := by
  rw [step, (State.nextEvent_eq_some_iff s _ e).mpr ⟨rest, h, rfl⟩]

theorem applyResetWith_atResetValues (t : Transaction) (s : State) : AtResetValues (s.applyResetWith t) := by
  cases ha : t.access with
  | read => rw [State.applyResetWith_of_read ha]; exact { s.applyReset_atResetValues with }
  | write v => rw [State.applyResetWith_of_write ha]; exact { s.applyReset_atResetValues with }

theorem stepEvent_of_isReset {e : HostEvent} (h : isReset e = true) (s : State) :
    ∃ s', stepEvent e s = .next s' ∧ AtResetValues s' := by
  cases e with
  | request t => cases h
  | reset => exact ⟨_, rfl, s.applyReset_atResetValues⟩
  | resetWithRequest t => exact ⟨_, rfl, applyResetWith_atResetValues t s⟩

theorem step_of_resetsNext {s : State} (h : resetsNext s) : ∃ s', step s = .next s' ∧ AtResetValues s' := by
  obtain ⟨e, rest, hp, he⟩ := h
  rw [step_of_pending_cons hp]
  exact stepEvent_of_isReset he _

/-- What a step can be: idle, a reset, an accepted or a refused transaction. -/
theorem step_cases {s s' : State} (h : step s = .next s') :
    s' = s ∨ (resetsNext s ∧ AtResetValues s') ∨
    ∃ t rest, s.pending = .request t :: rest ∧
      ((transactionError t s = .none ∧ Accepted { s with pending := rest } (decode t) s') ∨
        (transactionError t s ≠ .none ∧ s' = refusal (decode t) { s with pending := rest })) := by
  cases hp : s.pending with
  | nil =>
    rw [stepWithNothingPendingKeepsState s hp] at h
    exact .inl (by simpa using h.symm)
  | cons e rest =>
    cases he : isReset e with
    | true =>
      have hr : resetsNext s := ⟨e, rest, hp, he⟩
      obtain ⟨t, ht, hreset⟩ := step_of_resetsNext hr
      obtain rfl : t = s' := by simpa [ht] using h
      exact .inr (.inl ⟨hr, hreset⟩)
    | false =>
      cases e with
      | request t =>
        rw [step_of_pending_cons hp] at h
        exact .inr (.inr ⟨t, rest, rfl, operationError_decode_pending s t rest ▸ exec_cases h⟩)
      | reset | resetWithRequest => cases he

end Sys2Proof.Machine
end

section
/-! PROOFS, the rules of spec/10_state.md over every step: reset values, the invariant, illegal writes, which operation may
write which element of the state, and the word of OUT. -/

namespace Sys2Proof.Machine

/-! ## The step and reset -/

/-- Settles O6: the event is a transaction, so the step is the `exec` arm of `stepEvent`. -/
theorem stepRunsDecodedTransaction : Obligations.StepRunsDecodedTransaction :=
  fun _ _ _ hp => step_of_pending_cons hp

theorem reset_atResetValues : AtResetValues State.reset := State.reset.applyReset_atResetValues

/-- Settles O9: both kinds of reset event give R35's table. -/
theorem resetGivesResetValues : Obligations.ResetGivesResetValues :=
  ⟨reset_atResetValues, fun _ => step_of_resetsNext⟩

/-! ## The invariant -/

theorem ErrCode.eq_none_of_toBits {c : ErrCode} (h : c.toBits = 0) : c = .none := by
  cases c with
  | none => rfl
  | _ => exact absurd h (by decide)

theorem inv_of_atResetValues {s : State} (h : AtResetValues s) : Inv s where
  width := by rw [h.ctrlWidth]; decide
  error := by simp [errConsistent, h.err, ErrCode.eq_none_of_toBits h.errcode]
  reg := by simp [openRegFits, h.active]
  keys := by simp [validKeysCurrent, h.kvalid]

/-- Settles O11: the reset values meet the invariant. -/
theorem resetMeetsInvariant : Obligations.ResetMeetsInvariant := inv_of_atResetValues reset_atResetValues

/-- An accepted width is legal, and so are the two preset widths (R110, R120, R121). -/
theorem Accepted.keeps_legalWidth {s s' : State} {i : Instr} (h : Accepted s i s')
    (hw : legalWidth s.ctrlWidth = true) : legalWidth s'.ctrlWidth = true := by
  cases h with
  | wrCtrl w o hnew => exact hnew
  | preset48 | preset16 => rfl
  | _ => exact hw

theorem Accepted.keeps_errConsistent {s s' : State} {i : Instr} (h : Accepted s i s') (he : errConsistent s) :
    errConsistent s' := by
  cases h with
  | clrerr => simp [errConsistent]
  | _ => exact he

/-- START and FEED mask REG to the width; every operation that changes the width closes the stream (R26, R27). -/
theorem Accepted.keeps_openRegFits {s s' : State} {i : Instr} (h : Accepted s i s') (hr : openRegFits s) :
    openRegFits s' := by
  cases h with
  | wrCtrl | wrPoly | wrInit | preset48 | preset16 => exact nofun
  | start => exact fun _ => and_mask_and_mask s.initVal s.ctrlWidth.toNat
  | feed b => exact fun _ => feedByte_and_mask s.ctrlWidth.toNat s.poly s.reg b
  | _ => exact hr

/-- WR_UID clears KVALID, and a key command writes the key of the present UID beside its KVALID bit (R154, R156, R157). -/
theorem Accepted.keeps_validKeysCurrent {s s' : State} {i : Instr} (h : Accepted s i s') (hk : validKeysCurrent s) :
    validKeysCurrent s' := by
  cases h with
  | wrUid u => simp [validKeysCurrent]
  | keygen arg k =>
    intro j hj
    have hset : (s.setKey k (deriveKey s.uid k)).keys[j] = deriveKey s.uid j := by
      rw [State.setKey_getElem]
      split
      case isTrue hkj => rw [hkj]
      case isFalse hkj =>
        refine hk j ?_
        rwa [State.answerWrite_kvalid, State.setKey_kvalid_getLsbD, decide_eq_false hkj, Bool.false_or] at hj
    exact hset
  | keygenAll => exact fun j _ => State.setKeys_getElem (deriveKey s.uid) j s
  | _ => exact hk

theorem Accepted.inv {s s' : State} {i : Instr} (h : Accepted s i s') (hs : Inv s) : Inv s' :=
  ⟨h.keeps_legalWidth hs.width, h.keeps_errConsistent hs.error, h.keeps_openRegFits hs.reg,
    h.keeps_validKeysCurrent hs.keys⟩

/-- A refusal sets ERR and leaves the first code in ERRCODE; it never opens a stream (R193, R194). -/
theorem inv_refusal {s : State} {i : Instr} (herr : operationError s i ≠ .none) (hs : Inv s) : Inv (refusal i s) where
  width := hs.width
  error := by
    have hcode : (if s.err then s.errcode else operationError s i) ≠ .none := by
      split
      case isTrue h => exact hs.error.mp h
      case isFalse => exact herr
    exact iff_of_true rfl hcode
  reg := by
    intro hactive
    refine hs.reg ?_
    by_contra hclosed
    simp [refusal, hclosed] at hactive
  keys := hs.keys

theorem inv_pending {s : State} (hs : Inv s) (rest : List HostEvent) : Inv { s with pending := rest } := { hs with }

/-- Settles O12: an idle step keeps the state, a reset gives the reset values, and accepted and refused operations keep
each part of the invariant. -/
theorem stepKeepsInvariant : Obligations.StepKeepsInvariant := by
  intro s s' hs hstep
  obtain rfl | ⟨_, hreset⟩ | ⟨t, rest, _, ⟨_, hacc⟩ | ⟨herr, rfl⟩⟩ := step_cases hstep
  · exact hs
  · exact inv_of_atResetValues hreset
  · exact hacc.inv (inv_pending hs rest)
  · refine inv_refusal ?_ (inv_pending hs rest)
    rwa [operationError_decode_pending]

/-! ## Illegal writes -/

theorem busWrite_of_misaligned {addr : Byte} (h : addr.toNat % 8 ≠ 0) (v : Word) (s : State) :
    busWrite addr v s = .next (refused .badAddr (.write v) s) := by
  rw [busWrite, decode_of_misaligned ((misaligned_iff addr).mpr h)]
  rfl

theorem busWrite_of_unmapped {addr : Byte} (hm : addr.toNat % 8 = 0) (hr : registerAt addr = none) (v : Word)
    (s : State) : busWrite addr v s = .next (refused .badAddr (.write v) s) := by
  rw [busWrite, decode_of_unmapped (misaligned_eq_false hm) hr]
  rfl

theorem busWrite_of_readOnly {addr : Byte} {r : Register} (hm : addr.toNat % 8 = 0) (hr : registerAt addr = some r)
    (hro : r.hostAccess = .readOnly) (v : Word) (s : State) :
    busWrite addr v s = .next (refused .badAccess (.write v) s) := by
  rw [busWrite, decode_write_of_register (misaligned_eq_false hm) hr, decodeWrite_of_readOnly hro]
  rfl

/-- Settles O25: a misaligned and an unmapped offset fail the first check of R195, a read-only register the second. -/
theorem illegalWritesRecordTheirCode : Obligations.IllegalWritesRecordTheirCode := by
  refine fun addr v s => ⟨fun h => ?_, fun ⟨hm, h⟩ => ?_⟩
  · by_cases hm : addr.toNat % 8 = 0
    · obtain ⟨hlo, hhi⟩ := h.resolve_left (not_not.mpr hm)
      exact busWrite_of_unmapped hm (registerAt_of_unmapped addr (mem_unmappedOffsets hm hlo hhi)) v s
    · exact busWrite_of_misaligned hm v s
  · obtain ⟨r, hr, hro⟩ := exists_readOnly_register h
    exact busWrite_of_readOnly hm hr hro v s

/-! ## Which operation may write what -/

/-- A transaction that raises no error has the effect of its operation. -/
theorem accepted_of_request {s s' : State} {t : Transaction} {rest : List HostEvent}
    (hp : s.pending = .request t :: rest) (herr : transactionError t s = .none) (hstep : step s = .next s') :
    Accepted { s with pending := rest } (decode t) s' := by
  obtain ⟨u, hu, hacc⟩ := exec_of_accepted ((operationError_decode_pending s t rest).trans herr)
  rw [step_of_pending_cons hp] at hstep
  obtain rfl : u = s' := by simpa [stepEvent, hu] using hstep
  exact hacc

/-- An element that neither a refusal nor the host's events touch changes only in a reset or an accepted transaction. -/
theorem accepted_of_change {α : Type} (f : State → α) (hpending : ∀ s rest, f { s with pending := rest } = f s)
    (hrefusal : ∀ i s, f (refusal i s) = f s) {s s' : State} (hstep : step s = .next s') (hchange : f s' ≠ f s) :
    resetsNext s ∨ ∃ t rest, s.pending = .request t :: rest ∧ transactionError t s = .none ∧
      Accepted { s with pending := rest } (decode t) s' := by
  obtain rfl | ⟨hreset, _⟩ | ⟨t, rest, hp, ⟨herr, hacc⟩ | ⟨_, rfl⟩⟩ := step_cases hstep
  · exact absurd rfl hchange
  · exact .inl hreset
  · exact .inr ⟨t, rest, hp, herr, hacc⟩
  · exact absurd ((hrefusal _ _).trans (hpending s rest)) hchange

/-- The rule of a writer: where an accepted operation changes the element only if its mnemonic is one of `ms`, so does
every step that is no reset. -/
theorem acceptsNext_of_change {α : Type} {ms : List Mnemonic} (f : State → α)
    (hpending : ∀ s rest, f { s with pending := rest } = f s) (hrefusal : ∀ i s, f (refusal i s) = f s)
    (hwriters : ∀ {s i s'}, Accepted s i s' → f s' ≠ f s → i.mnemonic ∈ ms) {s s' : State}
    (hstep : step s = .next s') (hchange : f s' ≠ f s) : resetsNext s ∨ acceptsNext ms s := by
  refine (accepted_of_change f hpending hrefusal hstep hchange).imp_right ?_
  rintro ⟨t, rest, hp, herr, hacc⟩
  exact ⟨t, rest, hp, hwriters hacc fun h => hchange (h.trans (hpending s rest)), herr⟩

theorem Accepted.active_eq_or {s s' : State} {i : Instr} (h : Accepted s i s') :
    s'.active = s.active ∨ (s'.active = true ∧ i.mnemonic ∈ [.CMD_START]) ∨
      (s'.active = false ∧ i.mnemonic ∈ [.WR_CTRL, .WR_POLY, .WR_INIT, .CMD_PRESET48, .CMD_PRESET16]) := by
  cases h with
  | start => exact .inr (.inl ⟨rfl, by simp [Instr.mnemonic]⟩)
  | wrCtrl | wrPoly | wrInit | preset48 | preset16 => exact .inr (.inr ⟨rfl, by simp [Instr.mnemonic]⟩)
  | _ => exact .inl rfl

/-- A refusal keeps ACTIVE, except of a FEED refused for its reserved field, which clears it (R194). -/
theorem refusal_active_eq_or (i : Instr) (s : State) :
    (refusal i s).active = s.active ∨
      ((refusal i s).active = false ∧ i.mnemonic = .FEED ∧ operationError s i = .rsvd) := by
  by_cases hfeed : i.mnemonic = .FEED ∧ operationError s i = .rsvd
  · exact .inr ⟨if_pos hfeed, hfeed⟩
  · exact .inl (if_neg hfeed)

/-- Settles O30: by what an accepted and what a refused operation do to ACTIVE. -/
theorem onlyListedOperationsChangeActive : Obligations.OnlyListedOperationsChangeActive := by
  intro s s' hstep hchange
  obtain rfl | ⟨hreset, hs'⟩ | ⟨t, rest, hp, ⟨herr, hacc⟩ | ⟨_, rfl⟩⟩ := step_cases hstep
  · exact absurd rfl hchange
  · exact .inr ⟨hs'.active, .inl hreset⟩
  · obtain hsame | ⟨hset, hm⟩ | ⟨hclear, hm⟩ := hacc.active_eq_or
    · exact absurd hsame hchange
    · exact .inl ⟨hset, t, rest, hp, hm, herr⟩
    · exact .inr ⟨hclear, .inr (.inr ⟨t, rest, hp, hm, herr⟩)⟩
  · obtain hsame | ⟨hclear, hm, hrsvd⟩ := refusal_active_eq_or (decode t) { s with pending := rest }
    · exact absurd hsame hchange
    · rw [operationError_decode_pending] at hrsvd
      exact .inr ⟨hclear, .inr (.inl ⟨t, rest, hp, hm, hrsvd⟩)⟩

theorem Accepted.reg_writers {s s' : State} {i : Instr} (h : Accepted s i s') (hne : s'.reg ≠ s.reg) :
    i.mnemonic ∈ [.CMD_START, .FEED] := by
  cases h with
  | start | feed => simp [Instr.mnemonic]
  | _ => exact absurd rfl hne

/-- START and FEED leave REG below `2^w` and the width alone (R26). -/
theorem Accepted.reg_lt {s s' : State} {i : Instr} (h : Accepted s i s') (hw : legalWidth s.ctrlWidth = true)
    (hm : i.mnemonic ∈ [.CMD_START, .FEED]) : s'.reg.toNat < 2 ^ s.ctrlWidth.toNat ∧ s'.ctrlWidth = s.ctrlWidth := by
  obtain ⟨n, _, hn, hwidth⟩ := legalWidth_toNat hw
  have h64 : s.ctrlWidth.toNat ≤ 64 := by omega
  cases h with
  | start => exact ⟨(and_mask_eq_self_iff h64 _).mp (and_mask_and_mask s.initVal s.ctrlWidth.toNat), rfl⟩
  | feed b => exact ⟨(and_mask_eq_self_iff h64 _).mp (feedByte_and_mask s.ctrlWidth.toNat s.poly s.reg b), rfl⟩
  | read r => cases r <;> simp [decodeRead, Instr.mnemonic] at hm
  | _ => simp [Instr.mnemonic] at hm

/-- Settles O31: START and FEED are the writers of REG, and both mask it to the width. -/
theorem onlyStartFeedAndResetWriteReg : Obligations.OnlyStartFeedAndResetWriteReg := by
  refine ⟨fun s s' => ?_, fun s s' hw => ?_⟩
  · exact acceptsNext_of_change State.reg (fun _ _ => rfl) (fun _ _ => rfl) Accepted.reg_writers
  · rintro ⟨t, rest, hp, hm, herr⟩ hstep
    exact (accepted_of_request hp herr hstep).reg_lt hw hm

theorem Accepted.ctrlWidth_writers {s s' : State} {i : Instr} (h : Accepted s i s')
    (hne : s'.ctrlWidth ≠ s.ctrlWidth) : i.mnemonic ∈ [.WR_CTRL, .CMD_PRESET48, .CMD_PRESET16] := by
  cases h with
  | wrCtrl | preset48 | preset16 => simp [Instr.mnemonic]
  | _ => exact absurd rfl hne

theorem Accepted.ctrlOrder_writers {s s' : State} {i : Instr} (h : Accepted s i s')
    (hne : s'.ctrlOrder ≠ s.ctrlOrder) : i.mnemonic ∈ [.WR_CTRL] := by
  cases h with
  | wrCtrl => simp [Instr.mnemonic]
  | _ => exact absurd rfl hne

theorem Accepted.poly_writers {s s' : State} {i : Instr} (h : Accepted s i s') (hne : s'.poly ≠ s.poly) :
    i.mnemonic ∈ [.WR_POLY, .CMD_PRESET48, .CMD_PRESET16] := by
  cases h with
  | wrPoly | preset48 | preset16 => simp [Instr.mnemonic]
  | _ => exact absurd rfl hne

theorem Accepted.initVal_writers {s s' : State} {i : Instr} (h : Accepted s i s') (hne : s'.initVal ≠ s.initVal) :
    i.mnemonic ∈ [.WR_INIT, .CMD_PRESET48, .CMD_PRESET16] := by
  cases h with
  | wrInit | preset48 | preset16 => simp [Instr.mnemonic]
  | _ => exact absurd rfl hne

/-- Settles O32: the writers of each configuration element. -/
theorem onlyListedOperationsWriteConfiguration : Obligations.OnlyListedOperationsWriteConfiguration := by
  refine fun s s' hstep hr => ⟨fun h => ?_, fun h => ?_, fun h => ?_, fun h => ?_⟩ <;> refine Or.resolve_left ?_ hr
  · exact acceptsNext_of_change State.ctrlWidth (fun _ _ => rfl) (fun _ _ => rfl) Accepted.ctrlWidth_writers hstep h
  · exact acceptsNext_of_change State.ctrlOrder (fun _ _ => rfl) (fun _ _ => rfl) Accepted.ctrlOrder_writers hstep h
  · exact acceptsNext_of_change State.poly (fun _ _ => rfl) (fun _ _ => rfl) Accepted.poly_writers hstep h
  · exact acceptsNext_of_change State.initVal (fun _ _ => rfl) (fun _ _ => rfl) Accepted.initVal_writers hstep h

/-- WR_UID is the writer of UID; it keeps every key and clears KVALID (R154). -/
theorem Accepted.uid_writers {s s' : State} {i : Instr} (h : Accepted s i s') (hne : s'.uid ≠ s.uid) :
    i.mnemonic ∈ [.WR_UID] ∧ s'.keys = s.keys ∧ s'.kvalid = 0 := by
  cases h with
  | wrUid u => exact ⟨by simp [Instr.mnemonic], rfl, rfl⟩
  | _ => exact absurd rfl hne

theorem Accepted.keys_writers {s s' : State} {i : Instr} (h : Accepted s i s') (hne : s'.keys ≠ s.keys) :
    i.mnemonic ∈ [.CMD_KEYGEN, .CMD_KEYGEN_ALL] := by
  cases h with
  | keygen | keygenAll => simp [Instr.mnemonic]
  | _ => exact absurd rfl hne

/-- Settles O33: the writers of UID and KEY. -/
theorem onlyListedOperationsWriteUidAndKeys : Obligations.OnlyListedOperationsWriteUidAndKeys := by
  refine fun s s' hstep hr => ⟨fun h => ?_, fun h => ?_⟩
  · obtain ⟨t, rest, hp, herr, hacc⟩ :=
      (accepted_of_change State.uid (fun _ _ => rfl) (fun _ _ => rfl) hstep h).resolve_left hr
    obtain ⟨hm, hkeys, hkvalid⟩ := hacc.uid_writers h
    exact ⟨⟨t, rest, hp, hm, herr⟩, hkeys, hkvalid⟩
  · refine Or.resolve_left ?_ hr
    exact acceptsNext_of_change State.keys (fun _ _ => rfl) (fun _ _ => rfl) Accepted.keys_writers hstep h

/-- KVALID bit `k` after an accepted operation (R31, R154, R156, R157). -/
theorem Accepted.kvalid_getLsbD {s s' : State} {i : Instr} (h : Accepted s i s') (k : Sector) :
    s'.kvalid.getLsbD k.val = true ↔
      ((∃ arg rsv, i = .cmdKeygen arg rsv ∧ arg.toNat = k.val) ∨ i.mnemonic = .CMD_KEYGEN_ALL) ∨
        (s.kvalid.getLsbD k.val = true ∧ i.mnemonic ≠ .WR_UID) := by
  cases h with
  | wrUid u => simp [Instr.mnemonic]
  | keygen arg j hj =>
    rw [State.answerWrite_kvalid, State.setKey_kvalid_getLsbD]
    simp [Instr.mnemonic, hj, Fin.ext_iff]
  | keygenAll =>
    rw [State.answerWrite_kvalid, State.setKeys_kvalid_getLsbD]
    simp [Instr.mnemonic]
  | read r => cases r <;> simp [decodeRead, Instr.mnemonic]
  | _ => simp [Instr.mnemonic]

/-- Settles O34: a reset clears the bit, a refusal keeps it, and an accepted operation follows R31. -/
theorem kvalidBitIsSetExactlyByKeygen : Obligations.KvalidBitIsSetExactlyByKeygen := by
  intro s s' e rest k hp hstep
  cases he : isReset e with
  | true =>
    obtain ⟨u, hu, hreset⟩ := step_of_resetsNext ⟨e, rest, hp, he⟩
    obtain rfl : u = s' := by simpa [hu] using hstep
    have hrequest : ∀ t, e ≠ .request t := fun t h => by simp [h, isReset] at he
    simp [hreset.kvalid, hrequest]
  | false =>
    cases e with
    | reset | resetWithRequest => cases he
    | request t =>
      rw [step_of_pending_cons hp] at hstep
      obtain ⟨herr, hacc⟩ | ⟨herr, rfl⟩ := exec_cases hstep <;> rw [operationError_decode_pending] at herr
      · simpa [herr] using hacc.kvalid_getLsbD k
      · simp [herr, refusal, refused]

/-! ## The word of OUT -/

theorem byteCount_of_legalWidth {w : BitVec 7} (h : legalWidth w = true) :
    w.toNat / 8 ≤ 8 ∧ 8 * (w.toNat / 8) = w.toNat := by
  obtain ⟨n, _, hn, hw⟩ := legalWidth_toNat h
  omega

/-- A packed string of `n` bytes has no bit from `8 * n` up. -/
theorem pack_and_mask {s : ByteString} {n : Nat} (hs : s.length = n) (hn : n ≤ 8) :
    pack s &&& mask (8 * n) = pack s := by
  subst hs
  rw [← pack_leBytes, leBytes_eq_unpack, unpack_pack hn]

theorem reverse_unpack (n : Nat) (v : Word) : (unpack n v).reverse = beBytes n v := by
  rw [← leBytes_eq_unpack, ← swap_beBytes, swap, List.reverse_reverse]

@[simp] theorem length_serialize (w : Nat) (o : ByteOrder) (r : Word) : (serialize w o r).length = w / 8 := by
  cases o <;> simp [serialize]

/-- Settles O42: `pack` of the serialization in each order, by the identities of R10 and R12. -/
theorem outWordFollowsOrder : Obligations.OutWordFollowsOrder := by
  intro s h
  obtain ⟨hn, hmul⟩ := byteCount_of_legalWidth h
  refine ⟨fun ho => ?_, fun ho => ?_, ?_⟩
  · rw [State.outWord, ho, serialize, pack_leBytes, hmul, and_mask_and_mask]
  · rw [State.outWord, ho, serialize, reverse_unpack]
    simpa using unpack_pack ((length_beBytes _ (s.reg &&& mask s.ctrlWidth.toNat)).trans_le hn)
  · have := pack_and_mask (length_serialize s.ctrlWidth.toNat s.ctrlOrder s.reg) hn
    rwa [hmul] at this

end Sys2Proof.Machine
end

section
/-! PROOFS, the rules of spec/20_memory.md: what a bus access at each offset of the window does (R51, R52), reads (R55) and
repeated register writes (R56). -/

namespace Sys2Proof.Machine

/-! ## Offsets -/

theorem registerAt_offset (r : Register) : registerAt r.offset = some r := by
  cases r with
  | key k => revert k; decide
  | _ => rfl

theorem decode_read_offset (r : Register) : decode ⟨r.offset, .read⟩ = decodeRead r :=
  decode_read_of_register (Laws.EncodedOffset.misaligned_offset r) (registerAt_offset r)

theorem decode_write_offset (r : Register) (v : Word) : decode ⟨r.offset, .write v⟩ = decodeWrite r v :=
  decode_write_of_register (Laws.EncodedOffset.misaligned_offset r) (registerAt_offset r) v

/-- Below 0x50 the window has ten registers, from 0x80 up the sixteen keys (R51). -/
theorem exists_register_at {addr : Byte} (hm : addr.toNat % 8 = 0) (h : addr.toNat < 0x50 ∨ 0x80 ≤ addr.toNat) :
    ∃ r : Register, addr = r.offset := by
  obtain hlow | hkey := h
  · have hnamed : ∃ r ∈ [Register.ctrl, .poly, .initVal, .reg, .data, .cmd, .out, .status, .uid, .kvalid],
        addr.toNat = r.offset.toNat := by
      simp only [List.mem_cons, List.not_mem_nil, or_false, exists_eq_or_imp, exists_eq_left, Register.offset,
        BitVec.ofNat_eq_ofNat, BitVec.reduceToNat]
      omega
    obtain ⟨r, _, hr⟩ := hnamed
    exact ⟨r, BitVec.eq_of_toNat_eq hr⟩
  · have hsector : (addr.toNat - 0x80) / 8 < 16 := by omega
    refine ⟨.key ⟨_, hsector⟩, BitVec.eq_of_toNat_eq ?_⟩
    simp only [Register.offset, BitVec.toNat_ofNat]
    omega

/-- An access at an offset without a register fails the first check of R195. -/
theorem exec_decode_of_noRegister {addr : Byte}
    (h : addr.toNat % 8 ≠ 0 ∨ (0x50 ≤ addr.toNat ∧ addr.toNat ≤ 0x7F)) (a : Access) (s : State) :
    exec (decode ⟨addr, a⟩) s = .next (refused .badAddr a s) := by
  rw [← State.refuse_eq_refused]
  by_cases hm : addr.toNat % 8 = 0
  · obtain ⟨hlo, hhi⟩ := h.resolve_left (not_not.mpr hm)
    rw [decode_of_unmapped (misaligned_eq_false hm) (registerAt_of_unmapped addr (mem_unmappedOffsets hm hlo hhi))]
    rfl
  · rw [decode_of_misaligned ((misaligned_iff addr).mpr hm)]
    rfl

/-! ## Reads -/

theorem exec_decodeRead_of_writeOnly {r : Register} (h : r.hostAccess = .writeOnly) (s : State) :
    exec (decodeRead r) s = .next (refused .badAccess .read s) := by
  cases r with
  | data | cmd => rfl
  | _ => cases h

theorem exec_decodeRead_of_readable {r : Register} (h : r.hostAccess ≠ .writeOnly) (s : State) :
    exec (decodeRead r) s = .next (s.answerRead (s.readWord r)) := by
  cases r with
  | data | cmd => exact absurd rfl h
  | _ => rfl

/-- DATA and CMD are the write-only registers (R51). -/
theorem hostAccess_eq_writeOnly_iff (r : Register) :
    r.hostAccess = .writeOnly ↔ r.offset.toNat = 0x20 ∨ r.offset.toNat = 0x28 := by
  cases r with
  | key k => revert k; decide
  | _ => decide

/-- Settles O24: an offset has no register, a write-only one, or one that answers its word. -/
theorem readsChangeOnlyErrorStatus : Obligations.ReadsChangeOnlyErrorStatus := by
  refine fun addr s => ⟨fun h => exec_decode_of_noRegister h .read s, fun h => ?_, fun ⟨hm, hdata, hcmd, hmapped⟩ => ?_⟩
  · obtain ⟨r, rfl⟩ := exists_register_at (addr := addr) (by omega) (by omega)
    rw [busRead, decode_read_offset]
    exact exec_decodeRead_of_writeOnly ((hostAccess_eq_writeOnly_iff r).mpr h) s
  · obtain ⟨r, rfl⟩ := exists_register_at hm hmapped
    have hreadable : r.hostAccess ≠ .writeOnly := fun h => ((hostAccess_eq_writeOnly_iff r).mp h).elim hdata hcmd
    rw [busRead, decode_read_offset]
    exact ⟨_, exec_decodeRead_of_readable hreadable s⟩

/-! ## Repeated writes -/

theorem exists_readWrite_register_at {addr : Byte} (h : addr ∈ [0x00#8, 0x08#8, 0x10#8, 0x40#8]) :
    ∃ r : Register, addr = r.offset ∧ r.hostAccess = .readWrite := by
  simp only [List.mem_cons, List.not_mem_nil, or_false] at h
  obtain rfl | rfl | rfl | rfl := h
  exacts [⟨.ctrl, rfl, rfl⟩, ⟨.poly, rfl, rfl⟩, ⟨.initVal, rfl, rfl⟩, ⟨.uid, rfl, rfl⟩]

theorem mnemonic_decodeWrite_of_readWrite {r : Register} (h : r.hostAccess = .readWrite) (v : Word) :
    (decodeWrite r v).mnemonic ∈ [.WR_CTRL, .WR_POLY, .WR_INIT, .WR_UID] := by
  cases r with
  | ctrl | poly | initVal | uid => simp [decodeWrite, decodeCtrlWord, Instr.mnemonic]
  | _ => cases h

/-- What an accepted register write stores depends on its operands alone, and so does its check; doing it again writes
the values that already stand there. -/
theorem Accepted.exec_registerWrite_again {s t : State} {i : Instr} (h : Accepted s i t)
    (hm : i.mnemonic ∈ [.WR_CTRL, .WR_POLY, .WR_INIT, .WR_UID]) : exec i t = .next t := by
  cases h with
  | wrCtrl w o hw => exact if_pos hw
  | wrPoly | wrInit | wrUid => rfl
  | read r => cases r <;> simp [decodeRead, Instr.mnemonic] at hm
  | _ => simp [Instr.mnemonic] at hm

/-- Settles O26: the four offsets decode to register writes, whose accepted effect is idempotent. -/
theorem registerWritesAreIdempotent : Obligations.RegisterWritesAreIdempotent := by
  intro addr v s t haddr herr hwrite
  have hop : operationError s (decode ⟨addr, .write v⟩) = .none := (operationError_decode s _).trans herr
  obtain ⟨_, hacc⟩ | ⟨hne, _⟩ := exec_cases hwrite
  · obtain ⟨r, rfl, hrw⟩ := exists_readWrite_register_at haddr
    refine hacc.exec_registerWrite_again ?_
    rw [decode_write_offset]
    exact mnemonic_decodeWrite_of_readWrite hrw v
  · exact absurd hop hne

end Sys2Proof.Machine
end

section
/-! PROOFS, the rules of spec/30_encoding.md: decoder and encoder undo each other (R70 to R80), the opcode table's first
match (R71), the byte image (log 9), and the checks of a CMD word in their order (R76). -/

namespace Sys2Proof

open Sys2Proof.Machine

/-! ## The fields of a written word -/

@[simp] theorem ByteOrder.ofBit_toBit (o : ByteOrder) : ofBit o.toBit = o := by
  cases o <;> rfl

@[simp] theorem ByteOrder.toBit_ofBit (b : BitVec 1) : (ofBit b).toBit = b := by
  revert b; decide

@[simp] theorem cmdWord_op (op arg : Byte) (rsv : BitVec 48) : (cmdWord op arg rsv).extractLsb' 0 8 = op :=
  BitVec.extractLsb'_append_eq_right

@[simp] theorem cmdWord_arg (op arg : Byte) (rsv : BitVec 48) : (cmdWord op arg rsv).extractLsb' 8 8 = arg := by
  rw [cmdWord, BitVec.extractLsb'_append_eq_of_le le_rfl]
  exact BitVec.extractLsb'_append_eq_right

@[simp] theorem cmdWord_rsv (op arg : Byte) (rsv : BitVec 48) : (cmdWord op arg rsv).extractLsb' 16 48 = rsv := by
  rw [cmdWord, BitVec.extractLsb'_append_eq_of_le (by decide)]
  exact BitVec.extractLsb'_append_eq_left

/-- A word is the CMD word of its own fields (R76). -/
theorem cmdWord_of_fields (v : Word) :
    cmdWord (v.extractLsb' 0 8) (v.extractLsb' 8 8) (v.extractLsb' 16 48) = v := by
  simp only [cmdWord, BitVec.extractLsb'_append_extractLsb'_eq_extractLsb', BitVec.extractLsb'_eq_self]

/-- The fields of a CTRL word are the parts it was put together from (R73). -/
theorem decodeCtrlWord_append (w : BitVec 7) (r7 : BitVec 1) (o : ByteOrder) (rHi : BitVec 55) :
    decodeCtrlWord (rHi ++ o.toBit ++ r7 ++ w) = .wrCtrl w r7 o rHi := by
  have hw : (rHi ++ o.toBit ++ r7 ++ w).extractLsb' 0 7 = w := BitVec.extractLsb'_append_eq_right
  have hr7 : (rHi ++ o.toBit ++ r7 ++ w).extractLsb' 7 1 = r7 := by
    rw [BitVec.extractLsb'_append_eq_of_le le_rfl]
    exact BitVec.extractLsb'_append_eq_right
  have ho : (rHi ++ o.toBit ++ r7 ++ w).extractLsb' 8 1 = o.toBit := by
    rw [BitVec.extractLsb'_append_eq_of_le (by decide), BitVec.extractLsb'_append_eq_of_le le_rfl]
    exact BitVec.extractLsb'_append_eq_right
  have hrHi : (rHi ++ o.toBit ++ r7 ++ w).extractLsb' 9 55 = rHi := by
    rw [BitVec.extractLsb'_append_eq_of_le (by decide), BitVec.extractLsb'_append_eq_of_le (by decide)]
    exact BitVec.extractLsb'_append_eq_left
  rw [decodeCtrlWord, hw, hr7, ho, hrHi, ByteOrder.ofBit_toBit]

/-- The fields of a DATA word (R74). -/
theorem decodeWrite_data_append (b : Byte) (rsv : BitVec 56) : decodeWrite .data (rsv ++ b) = .feed b rsv :=
  congrArg₂ Instr.feed BitVec.extractLsb'_append_eq_right BitVec.extractLsb'_append_eq_left

/-- The fields of a UID word (R77). -/
theorem decodeWrite_uid_append (u rsv : BitVec 32) : decodeWrite .uid (rsv ++ u) = .wrUid u rsv :=
  congrArg₂ Instr.wrUid BitVec.extractLsb'_append_eq_right BitVec.extractLsb'_append_eq_left

theorem mem_commandCodes_iff (op : Byte) : op ∈ commandCodes ↔ 1 ≤ op.toNat ∧ op.toNat ≤ 6 := by
  simp only [commandCodes, List.mem_cons, List.not_mem_nil, or_false, ← BitVec.toNat_inj, BitVec.ofNat_eq_ofNat,
    BitVec.reduceToNat]
  omega

/-- An OP outside R76's codes takes the decoder's last arm. -/
theorem decodeCmdWord_of_unknown {v : Word} (h : v.extractLsb' 0 8 ∉ commandCodes) :
    decodeCmdWord v = .errCmdUnknown (v.extractLsb' 0 8) (v.extractLsb' 8 8) (v.extractLsb' 16 48) := by
  unfold decodeCmdWord
  dsimp only
  split <;> rename_i hop
  case h_7 => rfl
  all_goals exact absurd (by rw [hop]; decide) h

/-! ## Decoding what was encoded -/

theorem decode_readOf (r : Register) : decode (readOf r) = decodeRead r := decode_read_offset r

theorem decode_writeOf (r : Register) (v : Word) : decode (writeOf r v) = decodeWrite r v := decode_write_offset r v

theorem decode_unmappedOffset {addr : Byte} (h : addr ∈ unmappedOffsets) (a : Access) :
    decode ⟨addr, a⟩ = .errUnmapped addr a :=
  decode_of_unmapped (Laws.EncodedOffset.misaligned_unmappedOffset addr h) (registerAt_of_unmapped addr h) a

theorem decodeRead_of_writeOnly {r : Register} (h : r.hostAccess = .writeOnly) : decodeRead r = .errRdWo r := by
  cases r with
  | data | cmd => rfl
  | _ => cases h

/-- Settles O1: each operation is spelled at its register's offset, and its fields are taken apart as they were put
together; for the error operations well-formedness says that the decoder takes their arm. -/
theorem decodeOfEncodeIsIdentity : Obligations.DecodeOfEncodeIsIdentity := by
  intro i hi
  cases i with
  | errMisaligned addr a => exact decode_of_misaligned hi a
  | errUnmapped addr a => exact decode_unmappedOffset (by simpa [wellFormed] using hi) a
  | rdCtrl | rdPoly | rdInit | rdReg | rdOut | rdStatus | rdUid | rdKvalid | rdKey => exact decode_readOf _
  | errRdWo r => exact (decode_readOf r).trans (decodeRead_of_writeOnly (by simpa [wellFormed] using hi))
  | wrPoly v => exact decode_writeOf .poly v
  | wrInit v => exact decode_writeOf .initVal v
  | errWrRo r v => exact (decode_writeOf r v).trans (decodeWrite_of_readOnly (by simpa [wellFormed] using hi) v)
  | wrCtrl w r7 o rHi => exact (decode_writeOf .ctrl _).trans (decodeCtrlWord_append w r7 o rHi)
  | feed b rsv => exact (decode_writeOf .data _).trans (decodeWrite_data_append b rsv)
  | wrUid u rsv => exact (decode_writeOf .uid _).trans (decodeWrite_uid_append u rsv)
  | cmdStart | cmdPreset48 | cmdPreset16 | cmdKeygen | cmdKeygenAll | cmdClrerr =>
    exact (decode_writeOf .cmd _).trans (by simp [decodeWrite, decodeCmdWord])
  | errCmdUnknown op arg rsv =>
    have hop : op ∉ commandCodes := by simpa [wellFormed] using hi
    refine (decode_writeOf .cmd _).trans ((decodeCmdWord_of_unknown ?_).trans ?_) <;> simp [hop]

/-! ## Encoding what was decoded -/

/-- An offset is misaligned, one of the unmapped offsets of R51, or a register's. -/
theorem offset_cases (addr : Byte) :
    misaligned addr = true ∨ addr ∈ unmappedOffsets ∨ ∃ r : Register, addr = r.offset := by
  by_cases hm : addr.toNat % 8 = 0
  · by_cases hgap : 0x50 ≤ addr.toNat ∧ addr.toNat ≤ 0x7F
    · exact .inr (.inl (mem_unmappedOffsets hm hgap.1 hgap.2))
    · exact .inr (.inr (exists_register_at hm (by omega)))
  · exact .inl ((misaligned_iff addr).mpr hm)

theorem wellFormed_decodeRead (r : Register) : wellFormed (decodeRead r) = true := by
  cases r <;> rfl

theorem encode_decodeRead (r : Register) : encode (decodeRead r) = readOf r := by
  cases r <;> rfl

theorem encode_decodeCtrlWord (v : Word) : encode (decodeCtrlWord v) = writeOf .ctrl v := by
  simp only [decodeCtrlWord, encode, ByteOrder.toBit_ofBit, BitVec.extractLsb'_append_extractLsb'_eq_extractLsb',
    BitVec.extractLsb'_eq_self]

theorem wellFormed_decodeCmdWord (v : Word) : wellFormed (decodeCmdWord v) = true := by
  unfold decodeCmdWord
  dsimp only
  split
  case h_7 => simp_all [wellFormed, commandCodes]
  all_goals rfl

theorem encode_decodeCmdWord (v : Word) : encode (decodeCmdWord v) = writeOf .cmd v := by
  conv_rhs => rw [← cmdWord_of_fields v]
  unfold decodeCmdWord
  dsimp only
  split <;> rename_i hop
  case h_7 => rfl
  all_goals rw [hop]; rfl

theorem wellFormed_decodeWrite (r : Register) (v : Word) : wellFormed (decodeWrite r v) = true := by
  cases r with
  | cmd => exact wellFormed_decodeCmdWord v
  | _ => rfl

theorem encode_decodeWrite (r : Register) (v : Word) : encode (decodeWrite r v) = writeOf r v := by
  cases r with
  | ctrl => exact encode_decodeCtrlWord v
  | cmd => exact encode_decodeCmdWord v
  | data => exact congrArg (writeOf .data) BitVec.extractLsb'_append_extractLsb'
  | uid => exact congrArg (writeOf .uid) BitVec.extractLsb'_append_extractLsb'
  | _ => rfl

/-- Settles O2: an access where no register stands keeps its transaction whole, and an access of a register decodes to
operands that make up its word again. -/
theorem encodeOfDecodeIsIdentity : Obligations.EncodeOfDecodeIsIdentity := by
  rintro ⟨addr, a⟩
  obtain hm | hu | ⟨r, rfl⟩ := offset_cases addr
  · rw [decode_of_misaligned hm]
    exact ⟨hm, rfl⟩
  · rw [decode_unmappedOffset hu]
    exact ⟨by simpa [wellFormed] using hu, rfl⟩
  · cases a with
    | read =>
      rw [decode_read_offset]
      exact ⟨wellFormed_decodeRead r, encode_decodeRead r⟩
    | write v =>
      rw [decode_write_offset]
      exact ⟨wellFormed_decodeWrite r v, encode_decodeWrite r v⟩

/-- Settles O4: the decoder evaluated at eleven transactions. -/
theorem writtenEncodingsDecode : Obligations.WrittenEncodingsDecode := by
  unfold Obligations.WrittenEncodingsDecode
  decide

/-! ## The byte image (log 9) -/

/-- A word is its eight bytes, the most significant first. -/
theorem append_bytes_eq_self (v : Word) :
    v.extractLsb' 56 8 ++ v.extractLsb' 48 8 ++ v.extractLsb' 40 8 ++ v.extractLsb' 32 8 ++ v.extractLsb' 24 8 ++
      v.extractLsb' 16 8 ++ v.extractLsb' 8 8 ++ v.extractLsb' 0 8 = v := by
  simp only [BitVec.extractLsb'_append_extractLsb'_eq_extractLsb', BitVec.extractLsb'_eq_self]

theorem transactionOfBytes_bytesOfTransaction (t : Transaction) :
    transactionOfBytes (bytesOfTransaction t) = .ok t := by
  obtain ⟨addr, a⟩ := t
  cases a with
  | read => rfl
  | write v => exact congrArg (fun w => Except.ok (Transaction.mk addr (.write w))) (append_bytes_eq_self v)

theorem transactionOfBytes_of_length_ne {bs : List Byte} (h : bs.length ≠ 10) :
    transactionOfBytes bs = .error .wrongLength := by
  unfold transactionOfBytes
  split
  · exact absurd rfl h
  · rfl

/-- Settles O5: the image gives its transaction back, so decoding it is decoding that transaction. -/
theorem byteImageRoundTrips : Obligations.ByteImageRoundTrips := by
  refine ⟨fun i hi => ?_, fun bs h => ?_⟩
  · rw [decodeBytes, encodeBytes, transactionOfBytes_bytesOfTransaction]
    exact congrArg Except.ok (decodeOfEncodeIsIdentity i hi)
  · rw [decodeBytes, transactionOfBytes_of_length_ne h]

/-! ## The checks of a CMD word -/

theorem mnemonic_decodeCmdWord_ne_feed (v : Word) : (decodeCmdWord v).mnemonic ≠ .FEED := by
  unfold decodeCmdWord
  dsimp only
  split <;> nofun

/-- A CMD word that fails a check of R76 records that check's code and changes nothing else. -/
theorem busWrite_cmd_of_error {v : Word} {c : ErrCode} (hc : cmdError v = c) (hne : c ≠ .none) (s : State) :
    busWrite 0x28 v s = .next (refused c (.write v) s) := by
  have hop : operationError s (decodeCmdWord v) = c := (operationError_decodeCmdWord s v).trans hc
  have hdecode : decode ⟨0x28, .write v⟩ = decodeCmdWord v := decode_write_offset .cmd v
  rw [busWrite, hdecode, exec_of_refused (hop.trans_ne hne),
    refusal_eq_refused hop fun h => absurd h (mnemonic_decodeCmdWord_ne_feed v), encode_decodeCmdWord]
  rfl

/-- The checks of R76 over the fields of the word. -/
theorem cmdError_cmdWord (op arg : Byte) (rsv : BitVec 48) :
    cmdError (cmdWord op arg rsv) =
      if rsv ≠ 0 then .rsvd
      else if op ∉ commandCodes then .badCmd
      else if op = 0x04#8 then (if 15 < arg.toNat then .badSector else .none)
      else if arg ≠ 0 then .rsvd
      else .none := by
  simp only [cmdError, cmdWord_op, cmdWord_arg, cmdWord_rsv]

/-- Settles O22: each clause is the first check of R76 that fails. -/
theorem busWriteOfCmdChecksInOrder : Obligations.BusWriteOfCmdChecksInOrder := by
  intro op arg rsv s
  have hrecords {c : ErrCode} (hne : c ≠ .none) (hc : cmdError (cmdWord op arg rsv) = c) :
      busWrite 0x28 (rsv ++ arg ++ op) s = .next (refused c (.write 0) s) := busWrite_cmd_of_error hc hne s
  rw [cmdError_cmdWord] at hrecords
  refine ⟨fun hrsv => hrecords nofun (if_pos hrsv), fun hrsv hop => hrecords nofun ?_,
    fun hrsv hlo hhi hop harg => hrecords nofun ?_, fun hrsv hop harg => hrecords nofun ?_⟩
  · have hunknown : op ∉ commandCodes := by rw [mem_commandCodes_iff]; omega
    rw [if_neg (not_not.mpr hrsv), if_pos hunknown]
  · have hknown : op ∈ commandCodes := (mem_commandCodes_iff op).mpr ⟨hlo, hhi⟩
    have hkeygen : op ≠ 0x04#8 := fun h => hop (congrArg BitVec.toNat h)
    rw [if_neg (not_not.mpr hrsv), if_neg (not_not.mpr hknown), if_neg hkeygen, if_pos harg]
  · have hknown : op ∈ commandCodes := by rw [mem_commandCodes_iff]; omega
    have hkeygen : op = 0x04#8 := BitVec.eq_of_toNat_eq hop
    rw [if_neg (not_not.mpr hrsv), if_neg (not_not.mpr hknown), if_pos hkeygen, if_pos harg]

/-! ## The first match of a key (R71)

A row looks at a key in two parts: `we` and `addr`, and the low byte. The rows of one direction and offset are computed
from the table; in all but the writes of CMD the first of them looks at no bit of the low byte. -/

/-- The row matches the bits of `we` and `addr`. -/
def OpcodeRow.matchesAccess (row : OpcodeRow) (a : BitVec 9) : Bool :=
  a &&& row.mask.extractLsb' 8 9 == row.pattern.extractLsb' 8 9

/-- The row matches the low byte of the key. -/
def OpcodeRow.matchesLow (row : OpcodeRow) (l : Byte) : Bool :=
  l &&& row.mask.extractLsb' 0 8 == row.pattern.extractLsb' 0 8

/-- The row looks at no bit of the low byte. -/
def OpcodeRow.ignoresLow (row : OpcodeRow) : Bool :=
  row.mask.extractLsb' 0 8 == 0 && row.pattern.extractLsb' 0 8 == 0

/-- The rows of one direction and offset, in table order. -/
def accessRows (we : BitVec 1) (addr : Byte) : List OpcodeRow := opcodeTable.filter (·.matchesAccess (we ++ addr))

/-- The mnemonic of the first row of one direction and offset, where that row looks at no bit of the low byte. -/
def accessMnemonic (we : BitVec 1) (addr : Byte) : Option Mnemonic :=
  ((accessRows we addr).head?.filter (·.ignoresLow)).map (·.mnemonic)

theorem OpcodeRow.matchesKey_append (row : OpcodeRow) (a : BitVec 9) (l : Byte) :
    row.matchesKey (a ++ l) = (row.matchesAccess a && row.matchesLow l) := by
  have hparts (k : BitVec 17) : (k.extractLsb' 8 9 ++ k.extractLsb' 0 8 : BitVec 17) = k :=
    BitVec.extractLsb'_append_extractLsb' (w := 9) (len := 8)
  have hhigh : ((a ++ l : BitVec 17) &&& row.mask).extractLsb' 8 9 = a &&& row.mask.extractLsb' 8 9 := by
    rw [BitVec.extractLsb'_and, BitVec.extractLsb'_append_eq_left]
  have hlow : ((a ++ l : BitVec 17) &&& row.mask).extractLsb' 0 8 = l &&& row.mask.extractLsb' 0 8 := by
    rw [BitVec.extractLsb'_and, BitVec.extractLsb'_append_eq_right]
  rw [Bool.eq_iff_iff, Bool.and_eq_true]
  simp only [matchesKey, matchesAccess, matchesLow, beq_iff_eq, ← hhigh, ← hlow]
  exact ⟨fun h => ⟨by rw [h], by rw [h]⟩, fun ⟨hh, hl⟩ => by rw [← hparts (_ &&& _), hh, hl, hparts]⟩

theorem OpcodeRow.matchesLow_of_ignoresLow {row : OpcodeRow} (h : row.ignoresLow = true) (l : Byte) :
    row.matchesLow l = true := by
  obtain ⟨hmask, hpattern⟩ : row.mask.extractLsb' 0 8 = 0 ∧ row.pattern.extractLsb' 0 8 = 0 := by
    simpa [ignoresLow] using h
  simp [matchesLow, hmask, hpattern]

theorem tableMnemonic_append (we : BitVec 1) (addr l : Byte) :
    tableMnemonic (we ++ addr ++ l) = ((accessRows we addr).find? (·.matchesLow l)).map (·.mnemonic) := by
  have hmatch : (fun row : OpcodeRow => row.matchesKey (we ++ addr ++ l)) =
      fun row => decide (row.matchesAccess (we ++ addr) = true ∧ row.matchesLow l = true) :=
    funext fun row => (row.matchesKey_append (we ++ addr) l).trans (by simp)
  rw [accessRows, List.find?_filter, tableMnemonic, hmatch]

theorem tableMnemonic_of_accessMnemonic {we : BitVec 1} {addr : Byte} {m : Mnemonic}
    (h : accessMnemonic we addr = some m) (l : Byte) : tableMnemonic (we ++ addr ++ l) = some m := by
  obtain ⟨row, ⟨hhead, hignores⟩, rfl⟩ :
      ∃ row, ((accessRows we addr).head? = some row ∧ row.ignoresLow = true) ∧ row.mnemonic = m := by
    simpa [accessMnemonic, Option.filter_eq_some_iff] using h
  obtain ⟨rows, hrows⟩ := List.head?_eq_some_iff.mp hhead
  simp [tableMnemonic_append, hrows, OpcodeRow.matchesLow_of_ignoresLow hignores l]

theorem accessMnemonic_unmapped :
    ∀ we : BitVec 1, ∀ addr ∈ unmappedOffsets, accessMnemonic we addr = some .ERR_UNMAPPED := by decide

theorem accessMnemonic_read (r : Register) : accessMnemonic 0#1 r.offset = some (decodeRead r).mnemonic := by
  cases r with
  | key k => revert k; decide
  | _ => rfl

theorem accessMnemonic_write_key :
    ∀ k : Sector, accessMnemonic 1#1 (Register.key k).offset = some .ERR_WR_RO := by decide

theorem accessMnemonic_write {r : Register} (h : r ≠ .cmd) (v : Word) :
    accessMnemonic 1#1 r.offset = some (decodeWrite r v).mnemonic := by
  cases r with
  | cmd => exact absurd rfl h
  | key k => exact accessMnemonic_write_key k
  | _ => rfl

/-! ### Writes of CMD: the low byte is OP -/

theorem accessRows_write_cmd : accessRows 1#1 Register.cmd.offset = opcodeRowsCmd.tail := by decide

/-- The six command rows ask for the whole low byte, so an unknown OP passes them all by. -/
theorem find?_matchesLow_of_unknown {op : Byte} (h : op ∉ commandCodes) :
    opcodeRowsCmd.tail.find? (·.matchesLow op) = some ⟨.ERR_CMD_UNKNOWN, 0x12800, 0x1FF00⟩ := by
  have hmask : op &&& 255#8 = op := BitVec.and_allOnes
  simp_all [opcodeRowsCmd, OpcodeRow.matchesLow, commandCodes, ← beq_eq_false_iff_ne]

theorem tableMnemonic_write_cmd (v : Word) :
    tableMnemonic (1#1 ++ Register.cmd.offset ++ v.extractLsb' 0 8) = some (decodeCmdWord v).mnemonic := by
  rw [tableMnemonic_append, accessRows_write_cmd]
  unfold decodeCmdWord
  dsimp only
  split <;> rename_i hop
  case h_7 =>
    rw [find?_matchesLow_of_unknown (by simp_all [commandCodes])]
    rfl
  all_goals rw [hop]; rfl

/-! ### Misaligned offsets: the first three rows -/

/-- The row that tests bit `i` of the key alone. -/
def misalignedRow (i : Nat) : OpcodeRow := ⟨.ERR_MISALIGNED, BitVec.twoPow 17 i, BitVec.twoPow 17 i⟩

theorem matchesKey_misalignedRow {i : Nat} (hi : i < 17) (k : BitVec 17) :
    (misalignedRow i).matchesKey k = k.getLsbD i := by
  have hne : 0#17 ≠ BitVec.twoPow 17 i := fun h => by simpa [hi] using congrArg (·.getLsbD i) h
  cases hbit : k.getLsbD i <;> simp [misalignedRow, OpcodeRow.matchesKey, BitVec.and_twoPow, hbit, hne]

theorem opcodeTable_eq_misalignedRows_append :
    opcodeTable = [8, 9, 10].map misalignedRow ++ opcodeTable.drop 3 := by decide

theorem exists_bit_of_misaligned {addr : Byte} (h : misaligned addr = true) : ∃ i < 3, addr.getLsbD i = true := by
  by_contra hnone
  simp only [not_exists, not_and, Bool.not_eq_true] at hnone
  have hzero : addr.extractLsb' 0 3 = 0 := BitVec.eq_of_getLsbD_eq fun i hi => by simp [hnone i hi]
  simp [misaligned, hzero] at h

theorem tableMnemonic_of_misaligned (we : BitVec 1) {addr : Byte} (h : misaligned addr = true) (l : Byte) :
    tableMnemonic (we ++ addr ++ l) = some .ERR_MISALIGNED := by
  obtain ⟨i, hi, hbit⟩ := exists_bit_of_misaligned h
  have hkey : (we ++ addr ++ l).getLsbD (8 + i) = true := by
    rw [BitVec.getLsbD_append, if_neg (by omega), BitVec.getLsbD_append, if_pos (by omega),
      Nat.add_sub_cancel_left, hbit]
  have hmem : misalignedRow (8 + i) ∈ [8, 9, 10].map misalignedRow := List.mem_map_of_mem (by simp; omega)
  have hmatch : (misalignedRow (8 + i)).matchesKey (we ++ addr ++ l) = true :=
    (matchesKey_misalignedRow (by omega) _).trans hkey
  obtain ⟨row, hrow⟩ := Option.isSome_iff_exists.mp <|
    List.find?_isSome (p := fun row : OpcodeRow => row.matchesKey (we ++ addr ++ l)).mpr ⟨_, hmem, hmatch⟩
  obtain ⟨j, _, rfl⟩ := List.mem_map.mp (List.mem_of_find?_eq_some hrow)
  rw [tableMnemonic, opcodeTable_eq_misalignedRows_append, List.find?_append, hrow]
  rfl

/-! ### Every transaction, every key -/

theorem tableMnemonic_read (addr l : Byte) :
    tableMnemonic (0#1 ++ addr ++ l) = some (decode ⟨addr, .read⟩).mnemonic := by
  obtain hm | hu | ⟨r, rfl⟩ := offset_cases addr
  · rw [tableMnemonic_of_misaligned 0#1 hm, decode_of_misaligned hm, Instr.mnemonic]
  · rw [tableMnemonic_of_accessMnemonic (accessMnemonic_unmapped 0#1 addr hu), decode_unmappedOffset hu,
      Instr.mnemonic]
  · rw [tableMnemonic_of_accessMnemonic (accessMnemonic_read r), decode_read_offset]

theorem tableMnemonic_write (addr : Byte) (v : Word) :
    tableMnemonic (1#1 ++ addr ++ v.extractLsb' 0 8) = some (decode ⟨addr, .write v⟩).mnemonic := by
  obtain hm | hu | ⟨r, rfl⟩ := offset_cases addr
  · rw [tableMnemonic_of_misaligned 1#1 hm, decode_of_misaligned hm, Instr.mnemonic]
  · rw [tableMnemonic_of_accessMnemonic (accessMnemonic_unmapped 1#1 addr hu), decode_unmappedOffset hu,
      Instr.mnemonic]
  · rw [decode_write_offset]
    by_cases hr : r = .cmd
    · subst hr
      exact tableMnemonic_write_cmd v
    · exact tableMnemonic_of_accessMnemonic (accessMnemonic_write hr v) _

theorem tableMnemonic_key (t : Transaction) : tableMnemonic t.key = some (decode t).mnemonic := by
  obtain ⟨addr, a⟩ := t
  cases a with
  | read => exact tableMnemonic_read addr 0
  | write v => exact tableMnemonic_write addr v

/-- A key with `we` = 0 and a low byte other than 0 is no transaction's, but the rows of reads do not look at that
byte. -/
theorem exists_tableMnemonic (k : BitVec 17) : ∃ m, tableMnemonic k = some m := by
  obtain ⟨we, addr, l, rfl⟩ : ∃ (we : BitVec 1) (addr l : Byte), k = we ++ addr ++ l :=
    ⟨k.extractLsb' 16 1, k.extractLsb' 8 8, k.extractLsb' 0 8, by
      simp only [BitVec.extractLsb'_append_extractLsb'_eq_extractLsb', BitVec.extractLsb'_eq_self]⟩
  obtain rfl | rfl : we = 0#1 ∨ we = 1#1 := by revert we; decide
  · exact ⟨_, tableMnemonic_read addr l⟩
  · have hl : (cmdWord l 0 0).extractLsb' 0 8 = l := cmdWord_op l 0 0
    exact ⟨_, by rw [← hl]; exact tableMnemonic_write addr (cmdWord l 0 0)⟩

theorem toNat_key_read (addr : Byte) : (Transaction.key ⟨addr, .read⟩).toNat = addr.toNat <<< 8 := by
  rw [Transaction.key, BitVec.toNat_append, BitVec.toNat_append]
  simp

theorem toNat_key_write (addr : Byte) (v : Word) :
    (Transaction.key ⟨addr, .write v⟩).toNat = (1 <<< 16) ||| (addr.toNat <<< 8) ||| (v.toNat % 256) := by
  rw [Transaction.key, BitVec.toNat_append, BitVec.toNat_append, BitVec.extractLsb'_toNat, Nat.shiftLeft_or_distrib,
    ← Nat.shiftLeft_add]
  rfl

/-- Settles O3: reads, and writes except those of CMD, are named by the first row of their direction and offset, writes
of CMD by their OP. -/
theorem tableFirstMatchNamesDecodedOperation : Obligations.TableFirstMatchNamesDecodedOperation :=
  ⟨exists_tableMnemonic, toNat_key_read, toNat_key_write, tableMnemonic_key⟩

end Sys2Proof
end

section
/-! PROOFS, the CRC arithmetic of spec/40_crc_engine.md: the 64-bit engine against the pseudocode on unbounded naturals
(R101 to R103), serialization (R104), and the laws of R106 to R109. -/

namespace Sys2Proof.Machine

theorem toNat_le_of_mem_legalWidths {w : BitVec 7} (h : w ∈ legalWidths) : 8 ≤ w.toNat ∧ w.toNat ≤ 64 := by
  obtain ⟨n, hn, hn8, hw⟩ := legalWidth_toNat ((legalWidth_iff w).mpr h)
  omega

/-! ## The engine on 64-bit words and the pseudocode on naturals (log 7) -/

theorem and_natMask (w r : Nat) : r &&& natMask w = r % 2 ^ w := Nat.and_two_pow_sub_one_eq_mod r w

/-- The bit a word shift drops at 64 is one that the mask drops anyway. -/
theorem toNat_shiftLeft_xor_and_mask {w : Nat} (hw : w ≤ 64) (r p : Word) :
    (((r <<< 1) ^^^ p) &&& mask w).toNat = ((r.toNat <<< 1) ^^^ p.toNat) &&& natMask w := by
  have hdvd : 2 ^ w ∣ 2 ^ 64 := Nat.pow_dvd_pow 2 hw
  rw [toNat_and_mask hw, and_natMask, BitVec.toNat_xor, BitVec.toNat_shiftLeft, Nat.xor_mod_two_pow,
    Nat.xor_mod_two_pow, Nat.mod_mod_of_dvd _ hdvd]

theorem toNat_crcRound {w : Nat} (hw : w ≤ 64) (p r : Word) :
    (crcRound w p r).toNat = natRound w p.toNat r.toNat := by
  unfold crcRound natRound
  rw [BitVec.testBit_toNat]
  split
  case isTrue => exact toNat_shiftLeft_xor_and_mask hw r p
  case isFalse => simpa using toNat_shiftLeft_xor_and_mask hw r 0

theorem toNat_crcRounds {w : Nat} (hw : w ≤ 64) (p : Word) (k : Nat) (r : Word) :
    (crcRounds w p k r).toNat = natRounds w p.toNat k r.toNat := by
  induction k generalizing r with
  | zero => rfl
  | succ k ih => rw [crcRounds, natRounds, ih, toNat_crcRound hw]

/-- A byte shifted to bits `[w-1 : w-8]` stays below bit 64. -/
theorem toNat_setWidth_shiftLeft_byte {w : Nat} (hw : w ≤ 64) (b : Byte) :
    (b.setWidth 64 <<< (w - 8)).toNat = b.toNat <<< (w - 8) := by
  have hfits : b.toNat <<< (w - 8) < 2 ^ 64 := calc
    b.toNat <<< (w - 8) = b.toNat * 2 ^ (w - 8) := Nat.shiftLeft_eq _ _
    _ < 2 ^ 8 * 2 ^ (w - 8) := Nat.mul_lt_mul_of_pos_right b.isLt (Nat.two_pow_pos _)
    _ ≤ 2 ^ 8 * 2 ^ 56 := Nat.mul_le_mul_left _ (Nat.pow_le_pow_right (by decide) (by omega))
  rw [BitVec.toNat_shiftLeft, BitVec.toNat_setWidth_of_le (by decide), Nat.mod_eq_of_lt hfits]

theorem toNat_feedByte {w : Nat} (hw : w ≤ 64) (p r : Word) (b : Byte) :
    (feedByte w p r b).toNat = natFeedByte w p.toNat r.toNat b.toNat := by
  rw [feedByte, natFeedByte, toNat_crcRounds hw, BitVec.toNat_xor, toNat_setWidth_shiftLeft_byte hw]

theorem toNat_foldl_feedByte {w : Nat} (hw : w ≤ 64) (p r : Word) (s : ByteString) :
    (s.foldl (feedByte w p) r).toNat = (s.map BitVec.toNat).foldl (natFeedByte w p.toNat) r.toNat := by
  induction s generalizing r with
  | nil => rfl
  | cons b bs ih => rw [List.foldl_cons, List.map_cons, List.foldl_cons, ih, toNat_feedByte hw]

/-- Settles O35: each operation of the engine is, as a number, the one of the pseudocode. -/
theorem crcRegisterFollowsUnboundedPseudocode : Obligations.CrcRegisterFollowsUnboundedPseudocode := by
  intro w p i s hw
  obtain ⟨_, h64⟩ := toNat_le_of_mem_legalWidths hw
  rw [crcReg, natCrcReg, toNat_foldl_feedByte h64, toNat_and_mask h64, and_natMask]

/-! ## Serialization (R104) -/

theorem toNat_extractByte (v : Word) (i : Nat) : (v.extractLsb' (8 * i) 8).toNat = v.toNat / 256 ^ i % 256 := by
  rw [BitVec.extractLsb'_toNat, Nat.shiftRight_eq_div_pow, Nat.pow_mul]

theorem map_toNat_beBytes (n : Nat) (v : Word) :
    (beBytes n v).map BitVec.toNat = (List.range n).map fun i => v.toNat / 256 ^ (n - 1 - i) % 256 := by
  simp only [beBytes, List.map_map, Function.comp_def, toNat_extractByte]

theorem map_toNat_leBytes (n : Nat) (v : Word) :
    (leBytes n v).map BitVec.toNat = (List.range n).map fun i => v.toNat / 256 ^ i % 256 := by
  simp only [leBytes, List.map_map, Function.comp_def, toNat_extractByte]

/-- Settles O36: byte `i` of a word is its digit at `256 ^ i`. -/
theorem serializationFollowsByteOrder : Obligations.SerializationFollowsByteOrder := by
  intro w r hw
  obtain ⟨_, h64⟩ := toNat_le_of_mem_legalWidths hw
  rw [serialize, serialize, map_toNat_beBytes, map_toNat_leBytes, toNat_and_mask h64]
  exact ⟨rfl, rfl⟩

/-! ## Composition (R106) -/

theorem crcReg_append (w : Nat) (p i : Word) (s t : ByteString) :
    crcReg w p i (s ++ t) = t.foldl (feedByte w p) (crcReg w p i s) := List.foldl_append

/-- Settles O38: `crc_reg` is a left fold over the string. -/
theorem crcComposesOverConcatenation : Obligations.CrcComposesOverConcatenation :=
  fun _ p i s t _ => ⟨crcReg_append _ p i s t, crcReg_nil _ p i⟩

/-! ## High bits (R107) -/

theorem xor_and_mask (w : Nat) (a b : Word) : (a ^^^ b) &&& mask w = (a &&& mask w) ^^^ (b &&& mask w) := by
  refine BitVec.eq_of_getLsbD_eq fun i _ => ?_
  simp only [BitVec.getLsbD_and, BitVec.getLsbD_xor, Bool.and_xor_distrib_right]

/-- A round shifts, and XORs in the polynomial where the top bit is 1, all below the width. -/
theorem crcRound_eq (w : Nat) (p r : Word) :
    crcRound w p r = (r <<< 1 &&& mask w) ^^^ (if r.getLsbD (w - 1) then p &&& mask w else 0) := by
  unfold crcRound
  split
  case isTrue => exact xor_and_mask w _ p
  case isFalse => exact BitVec.xor_zero.symm

theorem crcRound_poly_and_mask (w : Nat) (p r : Word) : crcRound w (p &&& mask w) r = crcRound w p r := by
  rw [crcRound_eq, crcRound_eq, and_mask_and_mask]

theorem crcRounds_poly_and_mask (w : Nat) (p : Word) (k : Nat) (r : Word) :
    crcRounds w (p &&& mask w) k r = crcRounds w p k r := by
  induction k generalizing r with
  | zero => rfl
  | succ k ih => rw [crcRounds, crcRounds, ih, crcRound_poly_and_mask]

theorem feedByte_poly_and_mask (w : Nat) (p : Word) : feedByte w (p &&& mask w) = feedByte w p :=
  funext₂ fun _ _ => crcRounds_poly_and_mask w p 8 _

/-- Settles O39: each round masks the polynomial, and `crc_reg` the initial value. -/
theorem highBitsHaveNoEffect : Obligations.HighBitsHaveNoEffect := by
  intro w p i s _
  rw [crcReg, crcReg, feedByte_poly_and_mask, and_mask_and_mask]

/-! ## Linearity (R108) -/

theorem ite_xor_zero (x y : Bool) (q : Word) :
    (if x ^^ y then q else 0) = (if x then q else 0) ^^^ (if y then q else 0) := by
  cases x <;> cases y <;> simp

theorem crcRound_xor (w : Nat) (p r₁ r₂ : Word) : crcRound w p (r₁ ^^^ r₂) = crcRound w p r₁ ^^^ crcRound w p r₂ := by
  rw [crcRound_eq, crcRound_eq, crcRound_eq, BitVec.getLsbD_xor, ite_xor_zero, BitVec.shiftLeft_xor_distrib,
    xor_and_mask]
  ac_rfl

theorem crcRounds_xor (w : Nat) (p : Word) (k : Nat) (r₁ r₂ : Word) :
    crcRounds w p k (r₁ ^^^ r₂) = crcRounds w p k r₁ ^^^ crcRounds w p k r₂ := by
  induction k generalizing r₁ r₂ with
  | zero => rfl
  | succ k ih => rw [crcRounds, crcRounds, crcRounds, crcRound_xor, ih]

theorem feedByte_xor (w : Nat) (p r₁ r₂ : Word) (b₁ b₂ : Byte) :
    feedByte w p (r₁ ^^^ r₂) (b₁ ^^^ b₂) = feedByte w p r₁ b₁ ^^^ feedByte w p r₂ b₂ := by
  rw [feedByte, feedByte, feedByte, ← crcRounds_xor, BitVec.setWidth_xor, BitVec.shiftLeft_xor_distrib]
  congr 1
  ac_rfl

theorem foldl_feedByte_xor (w : Nat) (p : Word) {s₁ s₂ : ByteString} (h : s₁.length = s₂.length) (r₁ r₂ : Word) :
    (List.zipWith (· ^^^ ·) s₁ s₂).foldl (feedByte w p) (r₁ ^^^ r₂) =
      s₁.foldl (feedByte w p) r₁ ^^^ s₂.foldl (feedByte w p) r₂ := by
  induction s₁ generalizing s₂ r₁ r₂ with
  | nil => cases s₂ with
    | nil => rfl
    | cons => cases h
  | cons b₁ s₁ ih => cases s₂ with
    | nil => cases h
    | cons b₂ s₂ =>
      rw [List.zipWith_cons_cons, List.foldl_cons, feedByte_xor]
      exact ih (Nat.succ.inj h) _ _

theorem crcReg_xor (w : Nat) (p i₁ i₂ : Word) {s₁ s₂ : ByteString} (h : s₁.length = s₂.length) :
    crcReg w p (i₁ ^^^ i₂) (List.zipWith (· ^^^ ·) s₁ s₂) = crcReg w p i₁ s₁ ^^^ crcReg w p i₂ s₂ := by
  rw [crcReg, xor_and_mask, foldl_feedByte_xor w p h]
  rfl

/-- The zero string is its own XOR with itself, and a register XORed with itself is 0. -/
theorem crcReg_zeros (w : Nat) (p : Word) (n : Nat) : crcReg w p 0 (List.replicate n 0) = 0 := by
  simpa using crcReg_xor w p 0 0 (s₁ := List.replicate n 0) rfl

/-- Settles O40: a round is linear in the register, and so is every composition of rounds. -/
theorem crcIsLinear : Obligations.CrcIsLinear :=
  fun w p _ => ⟨fun i₁ i₂ _ _ => crcReg_xor w.toNat p i₁ i₂, crcReg_zeros w.toNat p⟩

/-! ## The zero polynomial (R109) -/

/-- A left shift moves no bit from above the width to below it. -/
theorem and_mask_shiftLeft_and_mask (w k : Nat) (r : Word) : (r &&& mask w) <<< k &&& mask w = r <<< k &&& mask w := by
  refine BitVec.eq_of_getLsbD_eq fun i hi => ?_
  simp only [BitVec.getLsbD_and, BitVec.getLsbD_shiftLeft, getLsbD_mask]
  by_cases hiw : i < w
  · have hlow : i - k < 64 ∧ i - k < w := by omega
    simp [hlow]
  · simp [hiw]

theorem crcRound_zero (w : Nat) (r : Word) : crcRound w 0 r = r <<< 1 &&& mask w := by
  simp [crcRound]

theorem crcRounds_zero_and_mask (w k : Nat) (r : Word) : crcRounds w 0 k r &&& mask w = r <<< k &&& mask w := by
  induction k generalizing r with
  | zero => rw [crcRounds, BitVec.shiftLeft_zero]
  | succ k ih => rw [crcRounds, ih, crcRound_zero, and_mask_shiftLeft_and_mask, ← BitVec.shiftLeft_add, Nat.add_comm 1]

/-- Eight shifts move the byte at `[w-1 : w-8]` out of the register. -/
theorem feedByte_zero {w : Nat} (hw : 8 ≤ w) (r : Word) (b : Byte) : feedByte w 0 r b = r <<< 8 &&& mask w := by
  have hout : b.setWidth 64 <<< (w - 8) <<< 8 &&& mask w = 0 := by
    refine BitVec.eq_of_getLsbD_eq fun i hi => ?_
    rw [← BitVec.shiftLeft_add, Nat.sub_add_cancel hw]
    simp only [BitVec.getLsbD_and, BitVec.getLsbD_shiftLeft, getLsbD_mask]
    by_cases hiw : i < w <;> simp [hiw]
  rw [← feedByte_and_mask, feedByte, crcRounds_zero_and_mask, BitVec.shiftLeft_xor_distrib, xor_and_mask, hout]
  exact BitVec.xor_zero

theorem foldl_feedByte_zero {w : Nat} (hw : 8 ≤ w) (s : ByteString) (r : Word) :
    s.foldl (feedByte w 0) r &&& mask w = r <<< (8 * s.length) &&& mask w := by
  induction s generalizing r with
  | nil => rw [List.foldl_nil, List.length_nil, Nat.mul_zero, BitVec.shiftLeft_zero]
  | cons b bs ih =>
    rw [List.foldl_cons, ih, feedByte_zero hw, and_mask_shiftLeft_and_mask, ← BitVec.shiftLeft_add, List.length_cons,
      Nat.mul_succ, Nat.add_comm]

/-- Settles O41: by R107 the polynomial is 0, and then a byte step is a shift by eight places. -/
theorem zeroPolynomialOnlyShifts : Obligations.ZeroPolynomialOnlyShifts := by
  intro w p i s hw hp
  obtain ⟨h8, _⟩ := toNat_le_of_mem_legalWidths hw
  rw [← crcReg_and_mask, crcReg, ← feedByte_poly_and_mask, hp]
  exact foldl_feedByte_zero h8 s _

end Sys2Proof.Machine
end

section
/-! PROOFS, the operations of spec/40_crc_engine.md: the words reads answer (R111, R113, R115, R118, R119, with R155,
R158, R159, R180), the configuration and stream operations (R110 to R121), and the bus writes of CTRL, POLY, INIT and
DATA over every word. -/

namespace Sys2Proof.Machine

/-! ## The words registers read as -/

/-- ORDER stands above the seven bits of WIDTH (R22, R111). -/
theorem toNat_ctrlWord (s : State) : s.ctrlWord.toNat = s.ctrlOrder.toBit.toNat * 256 + s.ctrlWidth.toNat := by
  have hwidth : s.ctrlWidth.toNat < 2 ^ 8 := s.ctrlWidth.isLt.trans (by decide)
  have horder : (s.ctrlOrder.toBit.setWidth 64 <<< 8).toNat = s.ctrlOrder.toBit.toNat <<< 8 := by
    cases s.ctrlOrder <;> rfl
  rw [State.ctrlWord, BitVec.toNat_or, horder, BitVec.toNat_setWidth_of_le (by decide),
    ← Nat.shiftLeft_add_eq_or_of_lt hwidth, Nat.shiftLeft_eq]

/-- Every ERRCODE with both values of ERR and ACTIVE (R180). -/
theorem toNat_statusWord (s : State) :
    s.statusWord.toNat = s.errcode.toBits.toNat * 16 + s.err.toNat * 2 + s.active.toNat := by
  rw [State.statusWord]
  cases s.errcode <;> cases s.err <;> cases s.active <;> rfl

theorem toNat_uidWord (s : State) : s.uidWord.toNat = s.uid.toNat := BitVec.toNat_setWidth_of_le (by decide)

theorem toNat_kvalidWord (s : State) : s.kvalidWord.toNat = s.kvalid.toNat := BitVec.toNat_setWidth_of_le (by decide)

theorem toNat_keyWord (k : Sector) (s : State) : (s.keyWord k).toNat = s.keys[k].toNat :=
  BitVec.toNat_setWidth_of_le (by decide)

/-- Settles O13: a readable register answers its word, and each word is the number its rule gives. -/
theorem readsAnswerTheirRegister : Obligations.ReadsAnswerTheirRegister := by
  intro s
  have hread (r : Register) (h : r.hostAccess ≠ .writeOnly) :
      exec (decodeRead r) s = .next { s with response := some (.data (s.readWord r)) } :=
    exec_decodeRead_of_readable h s
  exact ⟨⟨_, hread .ctrl nofun, toNat_ctrlWord s⟩, hread .poly nofun, hread .initVal nofun, hread .reg nofun,
    hread .out nofun, ⟨_, hread .status nofun, toNat_statusWord s⟩, ⟨_, hread .uid nofun, toNat_uidWord s⟩,
    ⟨_, hread .kvalid nofun, toNat_kvalidWord s⟩, fun k => ⟨_, hread (.key k) nofun, toNat_keyWord k s⟩⟩

/-! ## The configuration and stream operations -/

theorem exec_wrCtrl_of_legalWidth {w : BitVec 7} (h : w ∈ legalWidths) (o : ByteOrder) (s : State) :
    exec (.wrCtrl w 0 o 0) s = .next (s.setCtrl w o).closeStream.answerWrite := if_pos ((legalWidth_iff w).mpr h)

theorem exec_feed_of_active {s : State} (h : s.active = true) (b : Byte) :
    exec (.feed b 0) s = .next (s.setReg (s.fedReg b)).answerWrite := if_pos h

/-- Settles O14: a legal width passes WR_CTRL's check; the other four have no check left to pass. -/
theorem configurationOperationsComplete : Obligations.ConfigurationOperationsComplete :=
  fun s => ⟨fun _ o hw => exec_wrCtrl_of_legalWidth hw o s, fun _ => rfl, fun _ => rfl, rfl, rfl⟩

/-- Settles O15: START has no check left to pass, and FEED passes the check of ACTIVE. -/
theorem streamOperationsComplete : Obligations.StreamOperationsComplete :=
  fun _ => ⟨rfl, fun b hactive => exec_feed_of_active hactive b⟩

/-! ## Bus writes -/

theorem busWrite_offset (r : Register) (v : Word) (s : State) : busWrite r.offset v s = exec (decodeWrite r v) s := by
  rw [busWrite, decode_write_offset]

/-- A register write that raises an error other than FEED's RSVD records it and changes nothing else (R193, R194). -/
theorem busWrite_of_writeError {r : Register} {v : Word} {s : State} {c : ErrCode} (hr : r.hostAccess ≠ .readOnly)
    (hc : writeError r v s = c) (hne : c ≠ .none) (hfeed : r = .data → c ≠ .rsvd) :
    busWrite r.offset v s = .next (refused c (.write v) s) := by
  have hop : operationError s (decodeWrite r v) = c := by rw [operationError_decodeWrite, if_neg hr, hc]
  have hdata : (decodeWrite r v).mnemonic = .FEED → r = .data := by
    cases r with
    | data => exact fun _ => rfl
    | cmd => exact fun h => absurd h (mnemonic_decodeCmdWord_ne_feed v)
    | _ => exact nofun
  rw [busWrite_offset, exec_of_refused (hop.trans_ne hne), refusal_eq_refused hop fun h => hfeed (hdata h),
    encode_decodeWrite]
  rfl

/-! ### CTRL -/

theorem extractBit_eq_ofBool (v : Word) (i : Nat) : v.extractLsb' i 1 = BitVec.ofBool (v.getLsbD i) := by
  refine BitVec.eq_of_getLsbD_eq fun j hj => ?_
  obtain rfl : j = 0 := by omega
  simp

theorem extractBit_ne_zero_iff (v : Word) (i : Nat) : v.extractLsb' i 1 ≠ 0 ↔ v.getLsbD i = true := by
  rw [extractBit_eq_ofBool]
  cases v.getLsbD i <;> decide

theorem extractHigh_eq_zero_iff (v : Word) {i n : Nat} (h : i + n = 64) :
    v.extractLsb' i n = 0 ↔ v.toNat / 2 ^ i = 0 := by
  have hlt : v.toNat / 2 ^ i < 2 ^ n := by
    rw [Nat.div_lt_iff_lt_mul (Nat.two_pow_pos i), ← Nat.pow_add, Nat.add_comm n, h]
    exact v.isLt
  rw [← BitVec.toNat_inj, BitVec.extractLsb'_toNat, Nat.shiftRight_eq_div_pow, Nat.mod_eq_of_lt hlt]
  rfl

theorem extractWidth_mem_legalWidths_iff (v : Word) :
    v.extractLsb' 0 7 ∈ legalWidths ↔ v.toNat % 128 ∈ [8, 16, 24, 32, 40, 48, 56, 64] := by
  simp [legalWidths, ← BitVec.toNat_inj]

theorem ofBit_extractBit (v : Word) (i : Nat) :
    ByteOrder.ofBit (v.extractLsb' i 1) = if v.getLsbD i then .little else .big := by
  rw [extractBit_eq_ofBool]
  cases v.getLsbD i <;> rfl

/-- The checks of a CTRL word, over its number (R110). -/
theorem writeError_ctrl (v : Word) (s : State) :
    writeError .ctrl v s =
      if v.getLsbD 7 = true ∨ v.toNat / 2 ^ 9 ≠ 0 then .rsvd
      else if v.toNat % 128 ∉ [8, 16, 24, 32, 40, 48, 56, 64] then .badWidth else .none := by
  simp only [writeError, extractBit_ne_zero_iff, ne_eq, extractHigh_eq_zero_iff v (i := 9) (n := 55) rfl,
    extractWidth_mem_legalWidths_iff]

/-- Settles O19: reserved bits, then the width, then the accepted write. -/
theorem busWriteOfCtrl : Obligations.BusWriteOfCtrl := by
  refine fun v s => ⟨fun hrsv => ?_, fun h7 hhi hw => ?_, fun h7 hhi hw => ?_⟩
  · exact busWrite_of_writeError (r := .ctrl) nofun ((writeError_ctrl v s).trans (if_pos hrsv)) nofun nofun
  · have hrsv : ¬ (v.getLsbD 7 = true ∨ v.toNat / 2 ^ 9 ≠ 0) :=
      not_or.mpr ⟨ne_true_of_eq_false h7, not_not.mpr hhi⟩
    refine busWrite_of_writeError (r := .ctrl) nofun ((writeError_ctrl v s).trans ?_) nofun nofun
    rw [if_neg hrsv, if_pos hw]
  · have hbit : v.extractLsb' 7 1 = 0 := by rw [extractBit_eq_ofBool, h7]; rfl
    have hhigh : v.extractLsb' 9 55 = 0 := (extractHigh_eq_zero_iff v rfl).mpr hhi
    have hdecode : decodeWrite .ctrl v = .wrCtrl (v.extractLsb' 0 7) 0 (if v.getLsbD 8 then .little else .big) 0 := by
      rw [decodeWrite, decodeCtrlWord, hbit, hhigh, ofBit_extractBit]
    refine (busWrite_offset .ctrl v s).trans ?_
    rw [hdecode]
    exact exec_wrCtrl_of_legalWidth ((extractWidth_mem_legalWidths_iff v).mpr hw) _ s

/-! ### POLY and INIT -/

/-- Settles O20: all 64 bits are the operand (R75), and there is no check. -/
theorem busWriteOfPolyAndInit : Obligations.BusWriteOfPolyAndInit :=
  fun v s => ⟨busWrite_offset .poly v s, busWrite_offset .initVal v s⟩

/-! ### DATA -/

theorem extractHigh_data_eq_zero_iff (v : Word) : v.extractLsb' 8 56 = 0 ↔ v.toNat < 256 := by
  rw [extractHigh_eq_zero_iff v rfl]
  exact Nat.div_eq_zero_iff_lt (by decide)

/-- A FEED with a non-zero reserved field records RSVD and closes the stream (R117, R194). -/
theorem exec_feed_of_reserved {rsv : BitVec 56} (h : rsv ≠ 0) (b : Byte) (v : Word) (s : State) :
    exec (.feed b rsv) s = .next { refused .rsvd (.write v) s with active := false } := if_neg h

/-- Settles O21: the reserved field, then ACTIVE, then the byte step. -/
theorem busWriteOfData : Obligations.BusWriteOfData := by
  refine fun v s => ⟨fun hv => ?_, fun hv hactive => ?_, fun hv hactive => ?_⟩
  · have hrsv : v.extractLsb' 8 56 ≠ 0 := fun h => absurd ((extractHigh_data_eq_zero_iff v).mp h) (by omega)
    exact (busWrite_offset .data v s).trans (exec_feed_of_reserved hrsv _ v s)
  · have hrsv : v.extractLsb' 8 56 = 0 := (extractHigh_data_eq_zero_iff v).mpr hv
    have herr : writeError .data v s = .notActive := by simp [writeError, hrsv, hactive]
    exact busWrite_of_writeError (r := .data) nofun herr nofun nofun
  · have hrsv : v.extractLsb' 8 56 = 0 := (extractHigh_data_eq_zero_iff v).mpr hv
    have hbyte : v.extractLsb' 0 8 = BitVec.ofNat 8 v.toNat := by
      rw [← BitVec.toNat_inj, BitVec.extractLsb'_toNat, BitVec.toNat_ofNat]
      rfl
    refine (busWrite_offset .data v s).trans ?_
    rw [decodeWrite, hrsv, hbyte]
    exact exec_feed_of_active hactive _

end Sys2Proof.Machine
end

section
/-! PROOFS, streams (spec/40_crc_engine.md R122) and the checksum sequence (R123): what a list of transactions
performs, what an open stream takes from it, and the word a read of OUT then answers. -/

namespace Sys2Proof.Machine

/-! ## Transactions performed in order -/

theorem Accepted.pending_eq {s s' : State} {i : Instr} (h : Accepted s i s') : s'.pending = s.pending := by
  cases h <;> rfl

/-- Every operation answers a next state, and none touches what the host does next. -/
theorem exists_exec_eq_next (i : Instr) (s : State) : ∃ s', exec i s = .next s' ∧ s'.pending = s.pending := by
  by_cases herr : operationError s i = .none
  · obtain ⟨s', hs', hacc⟩ := exec_of_accepted herr
    exact ⟨s', hs', hacc.pending_eq⟩
  · exact ⟨_, exec_of_refused herr, rfl⟩

/-- The state at another future of the host. -/
def State.setPending (rest : List HostEvent) (s : State) : State := { s with pending := rest }

/-- `s'` is reached from `s` by performing the transactions in order. No operation reads `pending`, so what the host
still has to do beside them is left open. -/
inductive Performs : List Transaction → State → State → Prop
  | nil (s : State) (rest : List HostEvent) : Performs [] s (s.setPending rest)
  | cons {t : Transaction} {ts : List Transaction} {s u s' : State} (rest : List HostEvent)
      (hexec : exec (decode t) (s.setPending rest) = .next u) (hts : Performs ts u s') : Performs (t :: ts) s s'

theorem Performs.of_append {as bs : List Transaction} {s s' : State} (h : Performs (as ++ bs) s s') :
    ∃ u, Performs as s u ∧ Performs bs u s' := by
  induction as generalizing s with
  | nil => exact ⟨s, .nil s s.pending, h⟩
  | cons t ts ih =>
    cases h with
    | cons rest hexec hts =>
      obtain ⟨u, has, hbs⟩ := ih hts
      exact ⟨u, .cons rest hexec has, hbs⟩

theorem runSteps_withRequests_cons {t : Transaction} {ts : List Transaction} {s u : State}
    (h : exec (decode t) (withRequests ts s) = .next u) (n : Nat) :
    runSteps (n + 1) (withRequests (t :: ts) s) = runSteps n u := by
  have hpending : (withRequests (t :: ts) s).pending = .request t :: ts.map .request := rfl
  have hstep : step (withRequests (t :: ts) s) = .next u := (step_of_pending_cons hpending).trans h
  simp only [runSteps, Host.Core.run, core, hstep]

/-- The machine performs the transactions the host issues, a step each (R54, R57). -/
theorem exists_performs (ts : List Transaction) (s : State) :
    ∃ s', runSteps ts.length (withRequests ts s) = .next s' ∧ Performs ts s s' := by
  induction ts generalizing s with
  | nil => exact ⟨_, rfl, .nil s []⟩
  | cons t ts ih =>
    obtain ⟨u, hu, hpending⟩ := exists_exec_eq_next (decode t) (withRequests ts s)
    have hrest : u.pending = ts.map .request := hpending
    have hkeep : withRequests ts u = u := by rw [withRequests, ← hrest]
    obtain ⟨s', hrun, hts⟩ := ih u
    rw [hkeep] at hrun
    exact ⟨s', (runSteps_withRequests_cons hu ts.length).trans hrun, .cons (ts.map .request) hu hts⟩

/-- A first transaction whose effect is known leaves the rest to be performed from the state it answers. -/
theorem Performs.uncons {t : Transaction} {ts : List Transaction} {s s' : State} {f : State → State}
    (h : Performs (t :: ts) s s') (hf : ∀ s, exec (decode t) s = .next (f s)) :
    ∃ rest, Performs ts (f (s.setPending rest)) s' := by
  cases h with
  | cons rest hexec hts =>
    rw [hf] at hexec
    cases hexec
    exact ⟨rest, hts⟩

/-! ## The stream a list of transactions feeds -/

/-- The stream is open in `s'`, with the configuration of `s`, and its register is that of `s` fed with the bytes. -/
structure Streams (bs : ByteString) (s s' : State) : Prop where
  active : s'.active = true
  ctrlWidth : s'.ctrlWidth = s.ctrlWidth
  ctrlOrder : s'.ctrlOrder = s.ctrlOrder
  poly : s'.poly = s.poly
  initVal : s'.initVal = s.initVal
  reg : s'.reg = bs.foldl (feedByte s.ctrlWidth.toNat s.poly) s.reg

theorem Streams.trans {as bs : ByteString} {s u s' : State} (h : Streams as s u) (h' : Streams bs u s') :
    Streams (as ++ bs) s s' where
  active := h'.active
  ctrlWidth := h'.ctrlWidth.trans h.ctrlWidth
  ctrlOrder := h'.ctrlOrder.trans h.ctrlOrder
  poly := h'.poly.trans h.poly
  initVal := h'.initVal.trans h.initVal
  reg := by rw [h'.reg, h.ctrlWidth, h.poly, h.reg, List.foldl_append]

theorem Streams.of_pending {bs : ByteString} {s s' : State} {rest : List HostEvent}
    (h : Streams bs (s.setPending rest) s') : Streams bs s s' := { h with }

/-- A stream operation is a FEED with a zero reserved field or leaves the stream alone. -/
theorem streamOperation_cases {i : Instr} (h : streamOperation i = true) :
    (∃ b, i = .feed b 0) ∨ (streamNeutral i = true ∧ i.mnemonic ≠ .FEED ∧ fedByte i = none) := by
  cases i with
  | feed b rsv =>
    obtain rfl : rsv = 0 := by simpa [streamOperation] using h
    exact .inl ⟨b, rfl⟩
  | _ => exact .inr ⟨h, nofun, rfl⟩

theorem Accepted.streams_of_neutral {s s' : State} {i : Instr} (h : Accepted s i s') (hi : streamNeutral i = true)
    (hactive : s.active = true) : Streams [] s s' := by
  cases h with
  | wrCtrl | wrPoly | wrInit | preset48 | preset16 | start | feed => cases hi
  | _ => exact ⟨hactive, rfl, rfl, rfl, rfl, rfl⟩

theorem refusal_streams {s : State} {i : Instr} (hi : i.mnemonic ≠ .FEED) (hactive : s.active = true) :
    Streams [] s (refusal i s) where
  active := (if_neg fun h => hi h.1).trans hactive
  ctrlWidth := rfl
  ctrlOrder := rfl
  poly := rfl
  initVal := rfl
  reg := rfl

/-- On an open stream a FEED takes its byte; every other stream operation, accepted or refused, takes none. -/
theorem streams_of_exec {i : Instr} {s s' : State} (hi : streamOperation i = true) (hactive : s.active = true)
    (h : exec i s = .next s') : Streams (fedByte i).toList s s' := by
  obtain ⟨b, rfl⟩ | ⟨hneutral, hm, hnone⟩ := streamOperation_cases hi
  · rw [exec_feed_of_active hactive] at h
    cases h
    exact ⟨hactive, rfl, rfl, rfl, rfl, rfl⟩
  · rw [hnone]
    obtain ⟨_, hacc⟩ | ⟨_, rfl⟩ := exec_cases h
    · exact hacc.streams_of_neutral hneutral hactive
    · exact refusal_streams hm hactive

theorem fedBytes_cons (t : Transaction) (ts : List Transaction) :
    fedBytes (t :: ts) = (fedByte (decode t)).toList ++ fedBytes ts := by
  rw [fedBytes, List.filterMap_cons]
  cases fedByte (decode t) <;> rfl

theorem Performs.streams {ts : List Transaction} {s s' : State} (h : Performs ts s s') (hactive : s.active = true)
    (hts : ∀ t ∈ ts, streamOperation (decode t) = true) : Streams (fedBytes ts) s s' := by
  induction h with
  | nil s rest => exact ⟨hactive, rfl, rfl, rfl, rfl, rfl⟩
  | @cons t ts s u s' rest hexec _ ih =>
    obtain ⟨ht, hts⟩ := List.forall_mem_cons.mp hts
    have hfirst := (streams_of_exec (s := s.setPending rest) ht hactive hexec).of_pending
    rw [fedBytes_cons]
    exact hfirst.trans (ih hfirst.active hts)

/-! ## Streams from START (R122) -/

theorem exec_start (s : State) : exec (decode startOf) s = .next (s.setReg s.startValue).openStream.answerWrite := rfl

/-- START opens a stream at the start value, which is `crc_reg` of the empty string (R106, R116). -/
theorem Performs.streams_of_start {ts : List Transaction} {s s' : State} (h : Performs (startOf :: ts) s s')
    (hts : ∀ t ∈ ts, streamOperation (decode t) = true) : Streams (fedBytes ts) (s.setReg s.startValue) s' := by
  obtain ⟨rest, h⟩ := h.uncons exec_start
  exact { h.streams rfl hts with }

theorem busRead_out (s : State) : busRead 0x30 s = .next (s.answerRead s.outWord) := rfl

/-- The word of OUT of a stream that was started in the configuration of `s` (R28, R105). -/
theorem Streams.outWord_of_start {bs : ByteString} {s s' : State} (h : Streams bs (s.setReg s.startValue) s') :
    s'.outWord = pack (serialize s.ctrlWidth.toNat s.ctrlOrder (crcReg s.ctrlWidth.toNat s.poly s.initVal bs)) := by
  rw [State.outWord, h.reg, h.ctrlWidth, h.ctrlOrder]
  rfl

/-- The operations that write WIDTH, POLY or INIT close the stream (R110 to R121). -/
theorem Accepted.keeps_configuration {s s' : State} {i : Instr} (h : Accepted s i s') (hactive : s'.active = true) :
    s'.ctrlWidth = s.ctrlWidth ∧ s'.poly = s.poly ∧ s'.initVal = s.initVal := by
  cases h with
  | wrCtrl | wrPoly | wrInit | preset48 | preset16 => cases hactive
  | _ => exact ⟨rfl, rfl, rfl⟩

/-- Settles O44: a step that keeps the stream open is no configuration write, and a stream from START follows the fold
of `crc_reg` over the bytes fed. -/
theorem streamComputesCrcOfFedBytes : Obligations.StreamComputesCrcOfFedBytes := by
  refine ⟨fun s s' hstep _ hactive => ?_, fun s ts hts => ?_⟩
  · obtain rfl | ⟨_, hreset⟩ | ⟨t, rest, _, ⟨_, hacc⟩ | ⟨_, rfl⟩⟩ := step_cases hstep
    · exact ⟨rfl, rfl, rfl⟩
    · exact absurd (hreset.active.symm.trans hactive) nofun
    · exact hacc.keeps_configuration hactive
    · exact ⟨rfl, rfl, rfl⟩
  · obtain ⟨s', hrun, hperf⟩ := exists_performs (⟨0x28, .write 0x1⟩ :: ts) s
    have h : Streams (fedBytes ts) (s.setReg s.startValue) s' := hperf.streams_of_start hts
    have hout := busRead_out s'
    rw [h.outWord_of_start] at hout
    refine ⟨s', hrun, h.active, h.ctrlWidth, h.ctrlOrder, h.poly, h.initVal, h.reg, hout, fun hbig => ?_⟩
    rw [hbig] at hout
    exact hout

/-! ## The checksum sequence (R82, R123) -/

theorem decode_feedOf (b : Byte) : decode (feedOf b) = .feed b 0 := by
  have hword : b.setWidth 64 = 0#56 ++ b := BitVec.setWidth_eq_append (by decide)
  rw [feedOf, decode_writeOf, hword, decodeWrite_data_append]
  rfl

theorem fedBytes_map_feedOf (bs : ByteString) : fedBytes (bs.map feedOf) = bs := by
  induction bs with
  | nil => rfl
  | cons b bs ih => rw [List.map_cons, fedBytes_cons, decode_feedOf, ih]; rfl

theorem streamOperation_feedOf (bs : ByteString) : ∀ t ∈ bs.map feedOf, streamOperation (decode t) = true := by
  rw [List.forall_mem_map]
  intro b _
  rw [decode_feedOf]
  rfl

/-- FEEDs on an open stream record no error. -/
theorem Performs.feeds_keep_error {bs : ByteString} {s s' : State} (h : Performs (bs.map feedOf) s s')
    (hactive : s.active = true) : s'.err = s.err ∧ s'.errcode = s.errcode := by
  induction bs generalizing s with
  | nil => cases h; exact ⟨rfl, rfl⟩
  | cons b bs ih =>
    cases h with
    | cons rest hexec hts =>
      rw [decode_feedOf, exec_feed_of_active (s := s.setPending rest) hactive] at hexec
      cases hexec
      exact (ih hts hactive :)

theorem Performs.feeds_of_start {bs : ByteString} {s s' : State} (h : Performs (startOf :: bs.map feedOf) s s') :
    Streams bs (s.setReg s.startValue) s' ∧ s'.err = s.err ∧ s'.errcode = s.errcode := by
  have hstream := h.streams_of_start (streamOperation_feedOf bs)
  rw [fedBytes_map_feedOf] at hstream
  obtain ⟨_, hfeeds⟩ := h.uncons exec_start
  exact ⟨hstream, hfeeds.feeds_keep_error rfl⟩

theorem exec_preset16 (s : State) :
    exec (decode preset16Of) s = .next (s.loadSpec crc16Spec).closeStream.answerWrite := rfl

/-- CTRL 0x110 selects width 16 and order 1. -/
theorem exec_writeCtrl_0x110 (s : State) :
    exec (decode (writeOf .ctrl 0x110)) s = .next (s.setCtrl 16 .little).closeStream.answerWrite := rfl

theorem exec_readOut (s : State) : exec (decode (readOf .out)) s = .next (s.answerRead s.outWord) := rfl

/-- `crc_reg` is below `2^16`, so the serialization's mask drops nothing. -/
theorem compute_crc16Spec (range : ByteString) :
    compute crc16Spec range = beBytes 2 (crcReg 16 0x1021 0xFFFF range) :=
  congrArg (beBytes 2) (crcReg_and_mask 16 0x1021 0xFFFF range)

/-- Settles O46: PRESET16 and CTRL 0x110 set up the 16-bit spec in order 1, START and the FEEDs compute its register,
and its order-1 serialization is the swapped `compute` (R105). -/
theorem checksumSequenceAnswersChecksum : Obligations.ChecksumSequenceAnswersChecksum := by
  refine fun s range => ⟨?_, ?_, ?_⟩
  · obtain ⟨s', hrun, h⟩ := exists_performs (AsmLine.checksum16 range).expand s
    have hlength : (AsmLine.checksum16 range).expand.length = range.length + 4 := by simp [AsmLine.expand]
    rw [hlength] at hrun
    obtain ⟨v, hsetup, hread⟩ := h.of_append
    obtain ⟨_, hsetup⟩ := hsetup.uncons exec_preset16
    obtain ⟨_, hsetup⟩ := hsetup.uncons exec_writeCtrl_0x110
    obtain ⟨hstream, herr, herrcode⟩ := Performs.feeds_of_start hsetup
    obtain ⟨_, hend⟩ := hread.uncons exec_readOut
    cases hend
    have hchecksum : v.outWord = pack (checksum range) :=
      hstream.outWord_of_start.trans (congrArg pack (swap_serialize_big 16 (crcReg 16 0x1021 0xFFFF range)).symm)
    exact ⟨_, hrun, congrArg (fun w => some (Response.data w)) hchecksum, herr, herrcode⟩
  · rw [checksum, compute_crc16Spec]
  · rw [checksum, compute_crc16Spec, swap_beBytes]

end Sys2Proof.Machine
end

section
/-! PROOFS, the key derivation (spec/41_key_derivation.md): writes of UID (R154), the key word as the final CRC48
register (R150 to R153), the key commands (R156, R157, R160), and the cross-check on the configurable engine (R162). -/

namespace Sys2Proof.Machine

/-! ## Writes of UID -/

theorem extractHigh_uid_eq_zero_iff (v : Word) : v.extractLsb' 32 32 = 0 ↔ v.toNat < 2 ^ 32 := by
  rw [extractHigh_eq_zero_iff v rfl]
  exact Nat.div_eq_zero_iff_lt (by decide)

/-- Settles O23: the reserved field is the only check of a UID word. -/
theorem busWriteOfUid : Obligations.BusWriteOfUid := by
  refine fun v s => ⟨fun hv => ?_, fun hv => ?_⟩
  · have hrsv : v.extractLsb' 32 32 ≠ 0 := fun h => absurd ((extractHigh_uid_eq_zero_iff v).mp h) (by omega)
    exact busWrite_of_writeError (r := .uid) nofun (if_pos hrsv) nofun nofun
  · have hrsv : v.extractLsb' 32 32 = 0 := (extractHigh_uid_eq_zero_iff v).mpr hv
    have huid : v.extractLsb' 0 32 = BitVec.ofNat 32 v.toNat := by
      rw [BitVec.ofNat_toNat, BitVec.setWidth_eq_extractLsb' (by decide)]
    refine (busWrite_offset .uid v s).trans ?_
    rw [decodeWrite, hrsv, huid]
    rfl

/-! ## The key word -/

/-- Byte `i` of the UID is bits `8i + 7` to `8i` (R30). -/
theorem uidBytes_eq (uid : BitVec 32) :
    uidBytes uid = [uid.extractLsb' 0 8, uid.extractLsb' 8 8, uid.extractLsb' 16 8, uid.extractLsb' 24 8] := by
  have hbyte (i : Nat) (hi : i + 8 ≤ 32) : (uid.setWidth 64).extractLsb' i 8 = uid.extractLsb' i 8 :=
    BitVec.extractLsb'_setWidth_of_le (by omega)
  simp [uidBytes, unpack, List.range_succ, hbyte]

theorem uidBytes_append (u0 u1 u2 u3 : Byte) : uidBytes (u3 ++ u2 ++ u1 ++ u0) = [u0, u1, u2, u3] := by
  have h0 : (u3 ++ u2 ++ u1 ++ u0).extractLsb' 0 8 = u0 := BitVec.extractLsb'_append_eq_right
  have h1 : (u3 ++ u2 ++ u1 ++ u0).extractLsb' 8 8 = u1 := by
    rw [BitVec.extractLsb'_append_eq_of_le le_rfl]
    exact BitVec.extractLsb'_append_eq_right
  have h2 : (u3 ++ u2 ++ u1 ++ u0).extractLsb' 16 8 = u2 := by
    rw [BitVec.extractLsb'_append_eq_of_le (by decide), BitVec.extractLsb'_append_eq_of_le le_rfl]
    exact BitVec.extractLsb'_append_eq_right
  have h3 : (u3 ++ u2 ++ u1 ++ u0).extractLsb' 24 8 = u3 := by
    rw [BitVec.extractLsb'_append_eq_of_le (by decide), BitVec.extractLsb'_append_eq_of_le (by decide)]
    exact BitVec.extractLsb'_append_eq_left
  rw [uidBytes_eq, h0, h1, h2, h3]

/-- Cutting a word to `w` bits and extending it again is masking it (R8). -/
theorem setWidth_setWidth_eq_and_mask (w : Nat) (r : Word) : (r.setWidth w).setWidth 64 = r &&& mask w := by
  refine BitVec.eq_of_getLsbD_eq fun j hj => ?_
  rw [BitVec.getLsbD_setWidth, BitVec.getLsbD_setWidth, BitVec.getLsbD_and, getLsbD_mask]
  simp [hj, Bool.and_comm]

/-- `swap` undoes the big-endian serialization, so the key word is the register itself (R153). -/
theorem setWidth_packedKey {k : Sector} (hk : k ≠ 0) (p i : Word) (key0 : ByteString) (uid : BitVec 32) :
    (packedKey p i key0 uid k).setWidth 64 = crcReg 48 p i (keyMessage (uidBytes uid) k) := by
  rw [packedKey, setWidth_setWidth_eq_and_mask, calcKeyA, if_neg hk, swap_beBytes, pack_leBytes, and_mask_and_mask,
    crcReg_and_mask]

/-- Settles O43: the word of sectors 1 to 15 over the UID's four bytes, and R150's constant at sector 0. -/
theorem keyWordIsFinalCrcRegister : Obligations.KeyWordIsFinalCrcRegister := by
  refine fun p i key0 uid k => ⟨fun hk => ?_, fun hk => ?_⟩
  · rw [setWidth_packedKey hk, uidBytes_eq]
    rfl
  · rw [packedKey, calcKeyA, if_pos hk]

/-! ## The key commands -/

/-- What an accepted KEYGEN of sector `k` does (R156). -/
def State.keygen (k : Sector) (s : State) : State := (s.setKey k (deriveKey s.uid k)).answerWrite

/-- What an accepted KEYGEN_ALL does (R157). -/
def State.keygenAll (s : State) : State := (s.setKeys (deriveKey s.uid)).answerWrite

theorem State.keygen_getElem (k j : Sector) (s : State) :
    (s.keygen k).keys[j] = if k = j then deriveKey s.uid k else s.keys[j] :=
  State.setKey_getElem k j _ s

theorem State.keygen_kvalid_getLsbD (k j : Sector) (s : State) :
    (s.keygen k).kvalid.getLsbD j.val = (decide (k = j) || s.kvalid.getLsbD j.val) :=
  State.setKey_kvalid_getLsbD k j (deriveKey s.uid k) s

theorem State.keygenAll_getElem (j : Sector) (s : State) : s.keygenAll.keys[j] = deriveKey s.uid j :=
  State.setKeys_getElem _ j s

theorem State.keygenAll_kvalid_getLsbD (j : Sector) (s : State) : s.keygenAll.kvalid.getLsbD j.val = true :=
  State.setKeys_kvalid_getLsbD (deriveKey s.uid) j s

theorem exec_cmdKeygen_of_sector {arg : Byte} {k : Sector} (h : arg.toNat = k.val) (s : State) :
    exec (.cmdKeygen arg 0) s = .next (s.keygen k) := by
  simp [exec, execCmdKeygen, (sectorOfArg_eq_some_iff arg k).mpr h, State.keygen]

theorem exec_cmdKeygenAll (s : State) : exec (.cmdKeygenAll 0 0) s = .next s.keygenAll := rfl

/-- Settles O16: KEYGEN changes the key and the bit of its own sector alone, KEYGEN_ALL those of every sector. -/
theorem keyOperationsComplete : Obligations.KeyOperationsComplete := by
  refine fun s => ⟨fun _ => rfl, fun arg k hk => ⟨_, exec_cmdKeygen_of_sector hk s, rfl, ?_, ?_, fun j hj => ⟨?_, ?_⟩⟩,
    ⟨_, exec_cmdKeygenAll s, rfl, fun j => s.keygenAll_getElem j⟩⟩
  · rw [State.keygen_getElem, if_pos rfl]
  · rw [State.keygen_kvalid_getLsbD, decide_eq_true rfl, Bool.true_or]
  · rw [State.keygen_getElem, if_neg hj.symm]
  · rw [State.keygen_kvalid_getLsbD, decide_eq_false hj.symm, Bool.false_or]

/-- A key command has the same one of three effects in every state: which one, its operands alone decide. -/
theorem keyCommand_cases {i : Instr} (hm : i.mnemonic ∈ [.CMD_KEYGEN, .CMD_KEYGEN_ALL]) :
    (∃ k, ∀ s, exec i s = .next (s.keygen k)) ∨ (∀ s, exec i s = .next s.keygenAll) ∨
      (∃ c, c ≠ .none ∧ ∀ s, operationError s i = c ∧ exec i s = .next (s.refuseWrite c)) := by
  cases i with
  | cmdKeygen arg rsv =>
    by_cases hrsv : rsv = 0
    · subst hrsv
      cases hk : sectorOfArg arg with
      | some k => exact .inl ⟨k, exec_cmdKeygen_of_sector ((sectorOfArg_eq_some_iff arg k).mp hk)⟩
      | none =>
        exact .inr (.inr ⟨.badSector, nofun,
          fun s => ⟨by simp [operationError, hk], by simp [exec, execCmdKeygen, hk]⟩⟩)
    · exact .inr (.inr ⟨.rsvd, nofun, fun s => ⟨if_neg hrsv, if_neg hrsv⟩⟩)
  | cmdKeygenAll arg rsv =>
    by_cases harg : noArgument arg rsv = true
    · exact .inr (.inl fun s => if_pos harg)
    · exact .inr (.inr ⟨.rsvd, nofun, fun s => ⟨if_neg harg, if_neg harg⟩⟩)
  | _ => simp [Instr.mnemonic] at hm

/-- Settles O48: each of the three effects writes only what R160 lists, and takes it from UID, KEY and KVALID alone. -/
theorem keyCommandsIndependentOfEngine : Obligations.KeyCommandsIndependentOfEngine := by
  intro i s₁ s₂ hm huid hkeys hkvalid
  obtain ⟨k, h⟩ | h | ⟨c, hc, h⟩ := keyCommand_cases hm
  · exact ⟨_, _, h s₁, h s₂, by simp [State.keygen, huid, hkeys], by simp [State.keygen, hkvalid], rfl,
      fun _ _ _ => ⟨rfl, rfl⟩⟩
  · exact ⟨_, _, h s₁, h s₂, by simp [State.keygenAll, huid], by simp [State.keygenAll], rfl, fun _ _ _ => ⟨rfl, rfl⟩⟩
  · obtain ⟨herr, hexec⟩ := h s₁
    refine ⟨_, _, hexec, (h s₂).2, hkeys, hkvalid, rfl, fun t ht hnone => ?_⟩
    rw [← operationError_decode, ht, herr] at hnone
    exact absurd hnone hc

/-! ## KEYGENs in any order -/

/-- What accepted KEYGENs of the sectors `ks` do, one after another. -/
def State.keygens (ks : List Sector) (s : State) : State := ks.foldl (fun s k => s.keygen k) s

theorem State.keygens_cons (k : Sector) (ks : List Sector) (s : State) :
    s.keygens (k :: ks) = (s.keygen k).keygens ks := rfl

/-- The sectors' order leaves no trace: a key is the derived one where its sector was among them. -/
theorem State.keygens_getElem (ks : List Sector) (j : Sector) (s : State) :
    (s.keygens ks).keys[j] = if j ∈ ks then deriveKey s.uid j else s.keys[j] := by
  induction ks generalizing s with
  | nil => rfl
  | cons k ks ih =>
    have huid : (s.keygen k).uid = s.uid := rfl
    rw [keygens_cons, ih, huid, keygen_getElem]
    by_cases hk : k = j
    · simp [hk]
    · simp [hk, Ne.symm hk]

theorem State.keygens_kvalid_getLsbD (ks : List Sector) (j : Sector) (s : State) :
    (s.keygens ks).kvalid.getLsbD j.val = (decide (j ∈ ks) || s.kvalid.getLsbD j.val) := by
  induction ks generalizing s with
  | nil => simp [keygens]
  | cons k ks ih =>
    rw [keygens_cons, ih, keygen_kvalid_getLsbD]
    by_cases hk : k = j
    · simp [hk]
    · simp [hk, Ne.symm hk]

theorem State.keygens_frame (ks : List Sector) (s : State) :
    s.keygens ks = { s with
      keys := (s.keygens ks).keys, kvalid := (s.keygens ks).kvalid, response := (s.keygens ks).response } := by
  induction ks generalizing s with
  | nil => rfl
  | cons k ks ih => rw [keygens_cons, ih]; rfl

theorem State.keygens_response {ks : List Sector} {s : State} (h : s.response = some .done) :
    (s.keygens ks).response = some .done := by
  induction ks generalizing s with
  | nil => exact h
  | cons k ks ih => exact ih rfl

/-- KEYGENs that reach every sector do what one KEYGEN_ALL does. -/
theorem State.keygens_eq_keygenAll {ks : List Sector} (h : ∀ k, k ∈ ks) (s : State) : s.keygens ks = s.keygenAll := by
  have hkeys : (s.keygens ks).keys = s.keygenAll.keys := by
    refine Vector.ext fun j hj => ?_
    have hderived := s.keygens_getElem ks ⟨j, hj⟩
    rw [if_pos (h _)] at hderived
    exact hderived.trans (s.keygenAll_getElem ⟨j, hj⟩).symm
  have hkvalid : (s.keygens ks).kvalid = s.keygenAll.kvalid := by
    refine BitVec.eq_of_getLsbD_eq fun j hj => ?_
    rw [s.keygens_kvalid_getLsbD ks ⟨j, hj⟩, s.keygenAll_kvalid_getLsbD ⟨j, hj⟩]
    simp [h]
  have hresponse : (s.keygens ks).response = s.keygenAll.response := by
    cases ks with
    | nil => exact absurd (h 0) nofun
    | cons k ks => exact keygens_response (s := s.keygen k) rfl
  rw [keygens_frame, hkeys, hkvalid, hresponse]
  rfl

theorem toNat_sectorByte (k : Sector) : (BitVec.ofNat 8 k.val).toNat = k.val :=
  Nat.mod_eq_of_lt (k.isLt.trans (by decide))

/-- The CMD word of the text form is R76's with a zero reserved field. -/
theorem cmdOf_eq_writeOf_cmdWord (op arg : Byte) : cmdOf op arg = writeOf .cmd (cmdWord op arg 0) := by
  have hword : (cmdWord op arg 0).setWidth 64 = _ := BitVec.setWidth_append_append_eq_shiftLeft_setWidth_or
  rw [BitVec.setWidth_eq] at hword
  rw [cmdOf, hword]
  simp

/-- `CMD KEYGEN, k`. -/
def keygenOf (k : Sector) : Transaction := cmdOf 0x04 (BitVec.ofNat 8 k.val)

theorem decode_keygenOf (k : Sector) : decode (keygenOf k) = .cmdKeygen (BitVec.ofNat 8 k.val) 0 := by
  rw [keygenOf, cmdOf_eq_writeOf_cmdWord]
  exact decodeOfEncodeIsIdentity (.cmdKeygen _ 0) rfl

theorem exec_keygenOf (k : Sector) (s : State) : exec (decode (keygenOf k)) s = .next (s.keygen k) := by
  rw [decode_keygenOf]
  exact exec_cmdKeygen_of_sector (toNat_sectorByte k) s

/-- The machine runs the KEYGENs the host issues, a step each; what the host still has to do is no input of theirs. -/
theorem runSteps_keygens (ks : List Sector) (s : State) :
    runSteps ks.length (withRequests (ks.map keygenOf) s) = .next (withRequests [] (s.keygens ks)) := by
  induction ks generalizing s with
  | nil => rfl
  | cons k ks ih =>
    exact (runSteps_withRequests_cons (exec_keygenOf k (withRequests (ks.map keygenOf) s)) ks.length).trans
      (ih (s.keygen k))

/-- Settles O47: sixteen KEYGENs in any order reach every sector. -/
theorem keygenAllEqualsSixteenKeygens : Obligations.KeygenAllEqualsSixteenKeygens := by
  intro s order horder
  have hlength : order.length = 16 := by simpa using horder.length_eq
  have hall : ∀ k, k ∈ order := fun k => horder.mem_iff.mpr (List.mem_finRange k)
  have hrun := runSteps_keygens order s
  rw [hlength, State.keygens_eq_keygenAll hall] at hrun
  exact ⟨_, _, hrun, exec_cmdKeygenAll _, rfl⟩

/-! ## The cross-check on the configurable engine (R162) -/

/-- The DATA word of a sector number is the one its byte is fed with. -/
theorem setWidth_sectorByte (k : Sector) : (BitVec.ofNat 8 k.val).setWidth 64 = BitVec.ofNat 64 k.val := by
  rw [← BitVec.toNat_inj, BitVec.toNat_setWidth, toNat_sectorByte, BitVec.toNat_ofNat]

theorem exec_preset48 (s : State) :
    exec (decode preset48Of) s = .next (s.loadSpec crc48Spec).closeStream.answerWrite := rfl

/-- CTRL 0x130 selects width 48 and order 1. -/
theorem exec_writeCtrl_0x130 (s : State) :
    exec (decode (writeOf .ctrl 0x130)) s = .next (s.setCtrl 48 .little).closeStream.answerWrite := rfl

/-- The sequence of R162 for any bytes `bs`: it answers the CRC48 register of `bs` and records no error. -/
theorem crc48Sequence_answers {bs : ByteString} {s s' : State}
    (h : Performs (preset48Of :: writeOf .ctrl 0x130 :: startOf :: bs.map feedOf ++ [readOf .out]) s s') :
    s'.response = some (.data (crcReg 48 crc48Spec.poly crc48Spec.initVal bs)) ∧ s'.err = s.err ∧
      s'.errcode = s.errcode := by
  obtain ⟨v, hsetup, hread⟩ := h.of_append
  obtain ⟨_, hsetup⟩ := hsetup.uncons exec_preset48
  obtain ⟨_, hsetup⟩ := hsetup.uncons exec_writeCtrl_0x130
  obtain ⟨hstream, herr, herrcode⟩ := Performs.feeds_of_start hsetup
  obtain ⟨_, hend⟩ := hread.uncons exec_readOut
  cases hend
  have hout : v.outWord = crcReg 48 crc48Spec.poly crc48Spec.initVal bs := by
    have hserialize : v.outWord = pack (serialize 48 .little (crcReg 48 crc48Spec.poly crc48Spec.initVal bs)) :=
      hstream.outWord_of_start
    rw [hserialize, serialize, pack_leBytes, and_mask_and_mask, crcReg_and_mask]
  exact ⟨congrArg (fun w => some (Response.data w)) hout, herr, herrcode⟩

/-- Settles O45: the engine answers the CRC48 register of the key message, which is the word KEYGEN stores. -/
theorem engineCrossChecksKeygen : Obligations.EngineCrossChecksKeygen := by
  intro s u0 u1 u2 u3 k hk
  obtain ⟨s', hrun, h⟩ := exists_performs
    (preset48Of :: writeOf .ctrl 0x130 :: startOf :: (keyMessage [u0, u1, u2, u3] k).map feedOf ++ [readOf .out]) s
  obtain ⟨hresponse, herr, herrcode⟩ := crc48Sequence_answers h
  rw [← setWidth_sectorByte]
  refine ⟨s', _, hrun, exec_cmdKeygen_of_sector (toNat_sectorByte k) _, ?_, herr, herrcode⟩
  rw [State.keygen_getElem, if_pos rfl, deriveKey, setWidth_packedKey hk, uidBytes_append, hresponse]

end Sys2Proof.Machine
end

section
/-! PROOFS, status control (spec/42_status_control.md): CMD_CLRERR (R181) and the illegal operations (R184 to R186). -/

namespace Sys2Proof.Machine

/-! ## CMD_CLRERR -/

theorem exec_cmdClrerr (s : State) : exec (.cmdClrerr 0 0) s = .next s.clearError.answerWrite := rfl

/-- Settles O17: with ARG and the reserved field 0, CLRERR has no check left to pass, and the code it leaves is NONE. -/
theorem clearErrorCompletes : Obligations.ClearErrorCompletes :=
  fun s => ⟨s.clearError.answerWrite, exec_cmdClrerr s, rfl, congrArg ErrCode.toBits s.clearError_errcode⟩

/-! ## Illegal operations -/

theorem exec_errMisaligned (addr : Byte) (a : Access) (s : State) :
    exec (.errMisaligned addr a) s = .next (refused .badAddr a s) :=
  congrArg Host.Outcome.next (s.refuse_eq_refused .badAddr a)

theorem exec_errUnmapped (addr : Byte) (a : Access) (s : State) :
    exec (.errUnmapped addr a) s = .next (refused .badAddr a s) :=
  congrArg Host.Outcome.next (s.refuse_eq_refused .badAddr a)

theorem exec_errWrRo (r : Register) (v : Word) (s : State) :
    exec (.errWrRo r v) s = .next (refused .badAccess (.write v) s) :=
  congrArg Host.Outcome.next (s.refuseWrite_eq_refused .badAccess v)

theorem exec_errRdWo (r : Register) (s : State) : exec (.errRdWo r) s = .next (refused .badAccess .read s) :=
  congrArg Host.Outcome.next (s.refuseRead_eq_refused .badAccess)

/-- The one check of an unknown command is its reserved field, and it comes before the opcode (R186). -/
theorem exec_errCmdUnknown (op arg : Byte) (rsv : BitVec 48) (v : Word) (s : State) :
    exec (.errCmdUnknown op arg rsv) s = .next (refused (if rsv = 0 then .badCmd else .rsvd) (.write v) s) := by
  rw [← State.refuseWrite_eq_refused]
  by_cases hrsv : rsv = 0
  · rw [if_pos hrsv]
    exact if_pos hrsv
  · rw [if_neg hrsv]
    exact if_neg hrsv

/-- Settles O18: one refusal for each illegal operation, with the code of its rule. -/
theorem illegalOperationsRecordTheirCode : Obligations.IllegalOperationsRecordTheirCode := by
  refine fun s => ⟨fun addr a => exec_errMisaligned addr a s, fun addr a => exec_errUnmapped addr a s,
    fun r v => exec_errWrRo r v s, fun r => exec_errRdWo r s, fun op arg v => exec_errCmdUnknown op arg 0 v s,
    fun op arg rsv v hrsv => ?_⟩
  rw [exec_errCmdUnknown op arg rsv v, if_neg hrsv]

end Sys2Proof.Machine
end

section
/-! PROOFS, errors (spec/60_exceptions.md): every step answers a next state (R190), what a refused and what an accepted
transaction do to the error status (R193 to R195), and what runs of transactions keep: a recorded error until CLRERR
(R193, R197), a closed stream until START (R194, R223). -/

namespace Sys2Proof.Machine

/-! ## One event -/

theorem exists_stepEvent_eq_next (e : HostEvent) (s : State) : ∃ s', stepEvent e s = .next s' := by
  cases e with
  | request t =>
    obtain ⟨s', hs', _⟩ := exists_exec_eq_next (decode t) s
    exact ⟨s', hs'⟩
  | reset | resetWithRequest => exact ⟨_, rfl⟩

/-- Settles O8: with nothing pending the step is idle, and every event has a next state. -/
theorem stepAlwaysAnswersNext : Obligations.StepAlwaysAnswersNext := by
  intro s
  cases hp : s.pending with
  | nil => exact ⟨s, stepWithNothingPendingKeepsState s hp⟩
  | cons e rest =>
    rw [step_of_pending_cons hp]
    exact exists_stepEvent_eq_next e _

/-! ## One transaction -/

theorem access_encode_decode (t : Transaction) : (encode (decode t)).access = t.access :=
  congrArg Transaction.access (encodeOfDecodeIsIdentity t).2

/-- The refusal of a decoded operation, said of the raw transaction (R193 to R195). -/
theorem refusal_decode (t : Transaction) (s : State) :
    refusal (decode t) s = { refused (transactionError t s) t.access s with
      active := if (decode t).mnemonic = .FEED ∧ transactionError t s = .rsvd then false else s.active } := by
  rw [refusal, operationError_decode, access_encode_decode]

/-- Settles O27: the decoded operation raises the error of R195's first failing check, and its refusal is the record of
that error. -/
theorem refusedTransactionOnlyRecordsFirstError : Obligations.RefusedTransactionOnlyRecordsFirstError := by
  intro t s herr
  rw [← refusal_decode]
  exact exec_of_refused ((operationError_decode s t).trans_ne herr)

/-- CLRERR is the one accepted operation that writes the error status (R27, R181). -/
theorem Accepted.keeps_error {s s' : State} {i : Instr} (h : Accepted s i s') (hm : i.mnemonic ≠ .CMD_CLRERR) :
    s'.err = s.err ∧ s'.errcode = s.errcode := by
  cases h with
  | clrerr => exact absurd rfl hm
  | _ => exact ⟨rfl, rfl⟩

theorem Accepted.clears_error {s s' : State} {i : Instr} (h : Accepted s i s') (hm : i.mnemonic = .CMD_CLRERR) :
    s'.err = false ∧ s'.errcode = .none := by
  cases h with
  | clrerr => exact ⟨rfl, rfl⟩
  | read r => cases r <;> cases hm
  | _ => cases hm

/-- Settles O28: an accepted operation keeps the error status unless it is CLRERR, which clears it. -/
theorem acceptedTransactionRecordsNoError : Obligations.AcceptedTransactionRecordsNoError := by
  intro t s herr
  obtain ⟨s', hexec, hacc⟩ := exec_of_accepted ((operationError_decode s t).trans herr)
  exact ⟨s', hexec, hacc.keeps_error, hacc.clears_error⟩

/-! ## Runs of transactions -/

/-- FEED is the one operation whose error depends on the state (R117); any other raises the same error all along a run. -/
theorem operationError_decode_of_ne_feed {t : Transaction} (hm : (decode t).mnemonic ≠ .FEED) (s s' : State) :
    operationError s' (decode t) = transactionError t s := by
  rw [← operationError_decode]
  cases hi : decode t with
  | feed => exact absurd (congrArg Instr.mnemonic hi) hm
  | _ => rfl

theorem refused_in_every_state {t : Transaction} {s : State} {m : Mnemonic} (hm : m ≠ .FEED)
    (h : (decode t).mnemonic = m → transactionError t s ≠ .none) (s' : State) (ht : (decode t).mnemonic = m) :
    operationError s' (decode t) ≠ .none := by
  rw [operationError_decode_of_ne_feed (ht.trans_ne hm) s s']
  exact h ht

/-- What each transaction of a list keeps, from every state, performing the list keeps. -/
theorem Performs.keeps {p : State → Prop} {ts : List Transaction} {s s' : State} (h : Performs ts s s')
    (hpending : ∀ {s rest}, p s → p (s.setPending rest))
    (hexec : ∀ t ∈ ts, ∀ {s u}, exec (decode t) s = .next u → p s → p u) (hs : p s) : p s' := by
  induction h with
  | nil => exact hpending hs
  | cons rest hfirst _ ih =>
    obtain ⟨ht, hts⟩ := List.forall_mem_cons.mp hexec
    exact ih hts (ht hfirst (hpending hs))

/-! ### The first error -/

/-- ERR is set, and the recorded code is `c` (R193). -/
def State.HoldsError (c : ErrCode) (s : State) : Prop := s.err = true ∧ s.errcode = c

/-- A refusal keeps the code that stands, and an accepted operation other than CLRERR the whole error status. -/
theorem holdsError_of_exec {i : Instr} {c : ErrCode} {s s' : State} (hexec : exec i s = .next s')
    (hclrerr : i.mnemonic = .CMD_CLRERR → operationError s i ≠ .none) (h : s.HoldsError c) : s'.HoldsError c := by
  obtain ⟨herr, hcode⟩ := h
  obtain ⟨hnone, hacc⟩ | ⟨_, rfl⟩ := exec_cases hexec
  · obtain ⟨herr', hcode'⟩ := hacc.keeps_error fun hm => hclrerr hm hnone
    exact ⟨herr'.trans herr, hcode'.trans hcode⟩
  · exact ⟨rfl, (if_pos herr).trans hcode⟩

/-- Settles O29: every transaction of the run keeps the recorded code, for a CLRERR among them is refused in every
state. -/
theorem firstErrorIsKept : Obligations.FirstErrorIsKept := by
  intro ts s s' herr hclrerr hrun
  obtain ⟨u, hu, hperf⟩ := exists_performs ts s
  obtain rfl : u = s' := by simpa [hu] using hrun
  refine hperf.keeps (p := State.HoldsError s.errcode) id (fun t ht v _ hexec => ?_) ⟨herr, rfl⟩
  exact holdsError_of_exec hexec (refused_in_every_state (m := .CMD_CLRERR) nofun (hclrerr t ht) v)

/-! ### The closed stream -/

/-- The stream is closed, and REG is `r`. -/
def State.ClosedAt (r : Word) (s : State) : Prop := s.active = false ∧ s.reg = r

/-- START opens the stream, and FEED, which writes REG, is accepted on an open stream only (R116, R117). -/
theorem Accepted.closedAt {i : Instr} {r : Word} {s s' : State} (h : Accepted s i s')
    (hm : i.mnemonic ≠ .CMD_START) (hclosed : s.ClosedAt r) : s'.ClosedAt r := by
  obtain ⟨hinactive, hreg⟩ := hclosed
  cases h with
  | start => exact absurd rfl hm
  | feed b hactive => exact absurd (hinactive.symm.trans hactive) nofun
  | wrCtrl | wrPoly | wrInit | preset48 | preset16 => exact ⟨rfl, hreg⟩
  | _ => exact ⟨hinactive, hreg⟩

theorem closedAt_refusal {r : Word} {s : State} (i : Instr) (h : s.ClosedAt r) : (refusal i s).ClosedAt r := by
  obtain ⟨hinactive, hreg⟩ := h
  obtain hsame | ⟨hclear, _⟩ := refusal_active_eq_or i s
  · exact ⟨hsame.trans hinactive, hreg⟩
  · exact ⟨hclear, hreg⟩

theorem closedAt_of_exec {i : Instr} {r : Word} {s s' : State} (hexec : exec i s = .next s')
    (hstart : i.mnemonic = .CMD_START → operationError s i ≠ .none) (h : s.ClosedAt r) : s'.ClosedAt r := by
  obtain ⟨hnone, hacc⟩ | ⟨_, rfl⟩ := exec_cases hexec
  · exact hacc.closedAt (fun hm => hstart hm hnone) h
  · exact closedAt_refusal i h

/-- Settles O49: every transaction of the run keeps the stream closed and REG as it is, for a START among them is
refused in every state. -/
theorem closedStreamStaysClosedUntilStart : Obligations.ClosedStreamStaysClosedUntilStart := by
  intro ts s hinactive hstart
  obtain ⟨s', hrun, hperf⟩ := exists_performs ts s
  refine ⟨s', hrun, hperf.keeps (p := State.ClosedAt s.reg) id (fun t ht v _ hexec => ?_) ⟨hinactive, rfl⟩⟩
  exact closedAt_of_exec hexec (refused_in_every_state (m := .CMD_START) nofun (hstart t ht) v)

end Sys2Proof.Machine
end

section
/-! PROOFS, reset and hazards (spec/70_reset_and_hazards.md): a transaction that meets reset (R220), a FEED right after a
configuration change (R223), and the result of a stream read again in the other byte order (R224). -/

namespace Sys2Proof.Machine

/-! ## A FEED after a configuration change -/

/-- Every configuration change closes the stream and keeps REG (R26, R27). -/
theorem Accepted.closedAt_of_configuration {s s' : State} {i : Instr} (h : Accepted s i s')
    (hm : i.mnemonic ∈ [.WR_CTRL, .WR_POLY, .WR_INIT, .CMD_PRESET48, .CMD_PRESET16]) : s'.ClosedAt s.reg := by
  cases h with
  | wrCtrl | wrPoly | wrInit | preset48 | preset16 => exact ⟨rfl, rfl⟩
  | read r => cases r <;> simp [decodeRead, Instr.mnemonic] at hm
  | _ => simp [Instr.mnemonic] at hm

theorem exec_feed_of_inactive {s : State} (h : s.active = false) (b : Byte) :
    exec (.feed b 0) s = .next (s.refuseWrite .notActive) := if_neg (ne_true_of_eq_false h)

/-- Settles O50: the change leaves the stream closed and the error status as it is, so the FEED fails its check of ACTIVE. -/
theorem feedAfterReconfigurationIsRefused : Obligations.FeedAfterReconfigurationIsRefused := by
  intro t s b hm hnone
  obtain ⟨s', hexec, hacc⟩ := exec_of_accepted ((operationError_decode s t).trans hnone)
  obtain ⟨hinactive, hreg⟩ := hacc.closedAt_of_configuration hm
  obtain ⟨herr, hcode⟩ := hacc.keeps_error fun hclrerr => by simp [hclrerr] at hm
  have hrecorded : (s'.refuseWrite .notActive).errcode = if s.err then s.errcode else .notActive := by
    rw [← herr, ← hcode]; rfl
  exact ⟨s', _, hexec, hreg, exec_feed_of_inactive hinactive b, hreg, rfl, hrecorded⟩

/-! ## The result in the other byte order -/

/-- At a legal width the bytes of OUT are the serialization of REG, for a word holds them all (R12, R28). -/
theorem unpack_outWord {s : State} (h : legalWidth s.ctrlWidth = true) :
    unpack (s.ctrlWidth.toNat / 8) s.outWord = serialize s.ctrlWidth.toNat s.ctrlOrder s.reg := by
  obtain ⟨hn, _⟩ := byteCount_of_legalWidth h
  have hlength := length_serialize s.ctrlWidth.toNat s.ctrlOrder s.reg
  have hbytes := unpack_pack (hlength.trans_le hn)
  rwa [hlength] at hbytes

theorem swap_serialize_little (w : Nat) (r : Word) : swap (serialize w .little r) = serialize w .big r := by
  rw [← swap_serialize_big, swap, swap, List.reverse_reverse]

/-- Settles O51: both writes of CTRL are accepted and keep REG, whose two serializations are each other's reversal. -/
theorem orderChangeRereadsResult : Obligations.OrderChangeRereadsResult := by
  intro s hw
  have hexec (o : ByteOrder) := exec_wrCtrl_of_legalWidth ((legalWidth_iff s.ctrlWidth).mp hw) o s
  have hout (o : ByteOrder) : unpack (s.ctrlWidth.toNat / 8)
      (s.setCtrl s.ctrlWidth o).closeStream.answerWrite.outWord = serialize s.ctrlWidth.toNat o s.reg :=
    unpack_outWord hw
  refine ⟨_, _, hexec .big, hexec .little, rfl, rfl, ?_⟩
  rw [hout .big, hout .little, swap_serialize_little]

/-! ## A transaction that meets reset -/

/-- Reset wins: what a transaction adds to the reset alone is its response and, for a read, one free draw (R220, X9). -/
theorem State.applyResetWith_eq_applyReset (t : Transaction) (s : State) :
    s.applyResetWith t = { s.applyReset with
      response := (s.applyResetWith t).response, draws := (s.applyResetWith t).draws } := by
  cases ha : t.access with
  | read => rw [State.applyResetWith_of_read ha]
  | write v => rw [State.applyResetWith_of_write ha]

/-- Settles O10: both steps reset, and the two states differ in the response and the draws alone. -/
theorem resetWinsOverTransaction : Obligations.ResetWinsOverTransaction := by
  intro s t rest hp
  have hframe := (s.setPending rest).applyResetWith_eq_applyReset t
  have hreset : step { s with pending := .reset :: rest } = .next (s.setPending rest).applyReset :=
    step_of_pending_cons (e := .reset) rfl
  refine ⟨_, _, step_of_pending_cons hp, hreset, hframe, congrArg State.pending hframe, fun ha => ?_, fun v ha => ?_⟩
  · exact ⟨_, congrArg State.response (State.applyResetWith_of_read ha _)⟩
  · exact congrArg State.response (State.applyResetWith_of_write ha _)

end Sys2Proof.Machine
end
